-- ==== Sys2Proof/Word.lean ====
section
/-! DEFINITION. The plain value types of the Isorin CA-48: bytes, 16-bit counts, channel numbers and
sets of channels. Bit vectors stand only for what the manual treats as bits (bytes on a line, wrapping or
saturating 16-bit counts, the 48 bits of a speaking set or a slot pattern). -/

namespace Sys2Proof

/-- One byte of a frame, a slot record, the image, a service command or a reply. -/
abbrev Byte := BitVec 8

/-- A 16-bit count: the time tag and the journal's sequence counter wrap (R203), the counts of a drive
operation stop at their largest value (R38). -/
abbrev Word := BitVec 16

/-- A channel number, 0–47 (R1). -/
abbrev Chan := Fin 48

/-- A set of this station's channels: bit c stands for channel c, as in a slot pattern (R75), in the tutti
set (R117) and in the 48 bits shifted to the relay (R18). Equal sets are equal data. -/
abbrev ChanSet := BitVec 48

/-- A station number, 0–15 (R214). -/
abbrev Station := Fin 16

/-- Membership of a channel in a set of channels. -/
abbrev ChanSet.has (x : ChanSet) (c : Chan) : Bool := x.getLsbD c.val

end Sys2Proof
end

