-- ==== Sys2Proof/Syntax.lean ====
section
/-! DEFINITION. The commands of the block: one constructor for each row of spec/opcode_table.json, in the
table's order. A command is one whole and indivisible step of the part (spec/95_what_each_step_holds.md).
Its operands are what the step takes from outside the part's own state: the channel or input concerned, the
sampled value, the frame as sampled from the lines, the bytes of a service command. -/

namespace Sys2Proof

/-- A frame as a station has it whole at the last check bit: header, payload and check byte (R154, R158). -/
structure WireFrame where
  header  : Byte
  payload : List Byte
  check   : Byte
  deriving DecidableEq, Repr

/-- Why a frame that reached STOP is not accepted: a low objection slot, or a low veto slot of a CAPTURE
without objection (R159, R160). -/
inductive StopCause where
  | objected
  | vetoed
  deriving DecidableEq, Repr

/-- The two functions that flash, each with a flash timer of its own (R235, R236). -/
inductive FlashFn where
  | cresc
  | seqEnd
  deriving DecidableEq, Repr

/-- The commands: one constructor per row of the table of operations and events. -/
inductive Instr where
  /-- COLD_RESET (R220). -/
  | coldReset
  /-- LOAD_EVENT (R221). -/
  | loadEvent
  /-- START_UP_COMPLETION (R222). -/
  | startUpCompletion
  /-- DEBOUNCED_CHANGE (R5): channel `c`'s debounced contact takes the sampled value `on`. -/
  | debouncedChange (c : Chan) (on : Bool)
  /-- SHIFT_END (R19). -/
  | shiftEnd
  /-- PISTON_PRESS (R125): input `i`'s debounced change to pressed. -/
  | pistonPress (i : Fin 32)
  /-- PISTON_RELEASE (R125): input `i`'s debounced change to released. -/
  | pistonRelease (i : Fin 32)
  /-- SEQUENCE_END_TIMER_EXPIRY (R132). -/
  | sequenceEndTimerExpiry
  /-- SAMPLE_EVENT (R96): a conversion completes with raw sample `r`. -/
  | sampleEvent (r : Fin 1024)
  /-- INTERVAL_TIMER_EXPIRY (R108). -/
  | intervalTimerExpiry
  /-- SUPPLY_FIRST_SAMPLE (R62): the first sample after a reset, high or low. -/
  | supplyFirstSample (high : Bool)
  /-- SUPPLY_LOSS (R63). -/
  | supplyLoss
  /-- SUPPLY_WAIT_START (R62). -/
  | supplyWaitStart
  /-- SUPPLY_WAIT_ABANDON (R62). -/
  | supplyWaitAbandon
  /-- RESTORE (R66). -/
  | restore
  /-- PULSE_START (R52). -/
  | pulseStart
  /-- PULSE_END (R55): the pulse of channel `c` ends. -/
  | pulseEnd (c : Chan)
  /-- VERIFY (R57): the settle timer of channel `c` reaches Tsettle. -/
  | verify (c : Chan)
  /-- TAKE_UP_HEAD (R30). -/
  | takeUpHead
  /-- STORING_CAPTURE_RETAKE (R41). -/
  | storingCaptureRetake
  /-- FETCH_SERVE (R85). -/
  | fetchServe
  /-- FETCH_RESULT (R87). -/
  | fetchResult
  /-- WRITE_ISSUE (R82). -/
  | writeIssue
  /-- WRITE_COMPLETE (R83). -/
  | writeComplete
  /-- STORE_FAULT (R84). -/
  | storeFault
  /-- SYNCHRONISE (R148). -/
  | synchronise
  /-- DISTURBANCE (R149). -/
  | disturbance
  /-- FRAME_START (R153). -/
  | frameStart
  /-- FRAME_RECEIVED (R158): the frame as this station sampled it, whole at the last check bit. -/
  | frameReceived (f : WireFrame)
  /-- STRETCH_EXPIRY (R165). -/
  | stretchExpiry
  /-- FRAME_NOT_ACCEPTED (R162): STOP of a frame whose slots were sampled as `cause` says. -/
  | frameNotAccepted (cause : StopCause)
  /-- LINK_FAULT_TIMER_EXPIRY (R162). -/
  | linkFaultTimerExpiry
  /-- BROKEN_FRAME (R164). -/
  | brokenFrame
  /-- LINK_STALL (R167): `header` is the header byte of the frame on the link, if it was complete. -/
  | linkStall (header : Option Byte)
  /-- CANCEL_FRAME (R179): STOP of an accepted CANCEL. -/
  | cancelFrame
  /-- RECALL_FRAME (R180): STOP of an accepted RECALL. -/
  | recallFrame
  /-- CAPTURE_FRAME (R181): STOP of an accepted CAPTURE. -/
  | captureFrame
  /-- HANDSET_FRAME (R182): STOP of an accepted HANDSET. -/
  | handsetFrame
  /-- TOGGLE_FRAME (R183): STOP of an accepted TOGGLE. -/
  | toggleFrame
  /-- TUTTI_FRAME (R184): STOP of an accepted TUTTI. -/
  | tuttiFrame
  /-- STAGE_FRAME (R185): STOP of an accepted STAGE. -/
  | stageFrame
  /-- SETTER_FRAME (R186): STOP of an accepted SETTER. -/
  | setterFrame
  /-- LEVEL_FRAME (R187): STOP of an accepted LEVEL. -/
  | levelFrame
  /-- ANNOUNCE_FRAME (R188): STOP of an accepted ANNOUNCE. -/
  | announceFrame
  /-- SERVICE_BYTE_ARRIVAL (R226): byte `b`; `framed` is false when its stop bit read low. -/
  | serviceByteArrival (b : Byte) (framed : Bool)
  /-- GAP_TIMER_EXPIRY (R226). -/
  | gapTimerExpiry
  /-- IDENT (R228). -/
  | ident
  /-- STATUS (R231), of one group. -/
  | status (group : Byte)
  /-- CHANNELS (R231). -/
  | channels
  /-- JOURNAL (R211), the record `k` positions back from the newest. -/
  | journal (k : Byte)
  /-- SLOT READ (R232). -/
  | slotRead (level slot : Byte)
  /-- SLOT WRITE (R233), with the record's bytes. -/
  | slotWrite (level slot : Byte) (data : List Byte)
  /-- IMAGE READ (R232). -/
  | imageRead (offset : Word) (length : Byte)
  /-- IMAGE WRITE (R233): the length byte of the command is the number of data bytes. -/
  | imageWrite (offset : Word) (data : List Byte)
  /-- The service LOCK command (R233), with its state byte. -/
  | serviceLock (level state : Byte)
  /-- RESTART (R234). -/
  | restart
  /-- REPLY_END (R229). -/
  | replyEnd
  /-- FLASH_TIMER_EXPIRY (R236), of one flashing function. -/
  | flashTimerExpiry (f : FlashFn)
  /-- START_RECEIVING (R149). -/
  | startReceiving
  /-- ARBITRATION_LOST (R155). -/
  | arbitrationLost
  /-- STOP_WITHOUT_DELIVERY (R161). -/
  | stopWithoutDelivery
  deriving DecidableEq, Repr

end Sys2Proof
end

