-- ==== Sys2Proof/Decode.lean ====
section
/-! DEFINITION. The decoder of opcode-table words. The table gives no row any bits (spec/98_reader.md:
n_rows_with_fixed 0, n_rows_with_fields 0), so no word spells a command (log 24). What the part itself decodes, the
frames of the link and the commands of the service line, stands with its formats in Machine/Operands.lean
and Machine/Service.lean. -/

namespace Sys2Proof

/-- The command that the table's bits spell in a word: none, as the table gives no row bits. -/
def decodeTableWord (_nbits _w : Nat) : Option Instr := none

end Sys2Proof
end

