-- ==== Sys2Proof/Config.lean ====
section
/-! DEFINITION. What the part fixes once for all: the capacities of its queues, the lengths of its timers,
and the one value its manual leaves open. -/

namespace Sys2Proof.Config

/-- Entries of the operation list (R22). -/
def opCapacity : Nat := 8
/-- Entries of the transmit queue (R168). -/
def txCapacity : Nat := 16
/-- Entries of the write queue (R79). -/
def writeCapacity : Nat := 8
/-- Bytes of the service command assembly (R226). -/
def assemblyCapacity : Nat := 72
/-- Attempts of a frame (R162). -/
def maxAttempts : Nat := 3
/-- Restore wait, ms (R62). -/
def restoreMs : Nat := 100
/-- Write timer and start-up poll limit, ms (R73, R84). -/
def writeMs : Nat := 50
/-- Sequence-end timer, ms (R132). -/
def sequenceEndMs : Nat := 1000
/-- STAGE interval, ms (R107). -/
def intervalMs : Nat := 20
/-- LINK FAULT timer, ms (R162). -/
def linkFaultMs : Nat := 2000
/-- Stretch limit, ms (R165). -/
def stretchMs : Nat := 20
/-- Stall limit, ms (R167). -/
def stallMs : Nat := 30
/-- In-frame limit of high LCK, ms (R164). -/
def inFrameMs : Nat := 2
/-- Gap timer, ms (R226). -/
def gapMs : Nat := 50
/-- Flash half period, ms (R236). -/
def flashMs : Nat := 250
/-- Shoe conversion period, ms (R96). -/
def shoeMs : Nat := 2
/-- Length of one relay shift, µs (R18). -/
def shiftUs : Nat := 194
/-- Steps of the 1 µs time base to a tick (00_scope.md, Conventions). -/
def usPerMs : Nat := 1000
/-- The smallest span of a good calibration (R98). -/
def goodSpan : Nat := 64

/-- FREE VALUE (R73, R84; log 7). A write that ended in STORE_FAULT, or was cut by a cold reset, leaves its
target with the old bytes, the new bytes or a mixture: each bit of the n-th byte so left is the old bit
where this mask holds 1 and the new bit where it holds 0. Nothing in the model fixes the mask. -/
opaque tornMask : Nat → BitVec 8

end Sys2Proof.Config
end

