-- ==== Sys2Proof/Machine/State.lean ====
section
/-! DEFINITION. The state of one CA-48 station, block by block as the reference lists them, and its value
right after a cold reset. Plain data throughout. A timer is `none` while stopped and `some n` while it
runs, n being the ms it has counted. Values the manual gives by range are `Fin`, so that a value out of
range cannot be written down. -/

namespace Sys2Proof.Machine

/-! ### Named values -/

/-- Station modes (R175, R198), in the order STATUS counts them. -/
inductive Mode where
  | starting | run | listen | safe
  deriving DecidableEq, Repr

/-- Channel types (R1, R2), in the order of their codes in CHANNELS and the image (R231, R217). -/
inductive ChanType where
  | plain | moved | lit
  deriving DecidableEq, Repr

/-- The attempt of a move, 1 or 2 (R48). -/
inductive Attempt where
  | first | second
  deriving DecidableEq, Repr

/-- Drive state of a channel with its drive record (R48). Directions are Booleans, `true` for ON. A QUEUED
channel's direction and attempt stand in its pending-move queue entry. -/
inductive Drive where
  | idle
  | queued
  /-- Pulse direction, attempt, ms of the pulse timer, and the overdrive timer once started. -/
  | energized (dir : Bool) (attempt : Attempt) (pulse : Nat) (overdrive : Option Nat)
  /-- Pulse direction, attempt, ms of the settle timer. -/
  | settling (dir : Bool) (attempt : Attempt) (settle : Nat)
  /-- Direction and attempt of the held move. -/
  | held (dir : Bool) (attempt : Attempt)
  deriving DecidableEq, Repr

/-- Supply states (R62), in the order STATUS counts them. -/
inductive Supply where
  | present | lost | waiting | unsampled
  deriving DecidableEq, Repr

/-- Memory state as the Store Controller holds it (R73). -/
inductive MemState where
  | idle | busy
  deriving DecidableEq, Repr

/-- Line states of the Link Controller (R147). -/
inductive LineState where
  | off | seeking | idle | receiving | sending
  deriving DecidableEq, Repr

/-- Calibration states (R98). -/
inductive CalState where
  | good | faulted
  deriving DecidableEq, Repr

/-- Port states of the Service Port (R226). -/
inductive PortState where
  | listening | assembling | executing | replying | discarding
  deriving DecidableEq, Repr

/-- Outcome of the image check: passed, or the test that failed (R215). -/
inductive ImageOutcome where
  | passed | signature | length | check
  deriving DecidableEq, Repr

/-- Link bit rates by image code: 62.5, 125 and 250 kbit/s (R146, R216). -/
inductive BitRate where
  | slow | medium | fast
  deriving DecidableEq, Repr

/-- Functions of an indicator output, in the order of their codes (R216, R235). -/
inductive IndicatorFn where
  | none | ready | setter | locked | storeFault | linkFault | stuck | cresc | tutti | seqEnd
  deriving DecidableEq, Repr

/-- Piston functions with their arguments (R126). -/
inductive PistonFn where
  | nothing
  | recall (slot : Fin 128)
  | next
  | prev
  | set
  | cancelAll
  | cancelDiv (d : Fin 16)
  | toggle (stop : Fin 1024)
  | tutti
  | levelUp
  | levelDown
  | lock
  | program (k : Fin 4)
  | calibrate
  deriving DecidableEq, Repr

/-- Scope of a CANCEL: the whole console (FFh) or one division (R179). -/
inductive Scope where
  | console
  | division (d : Fin 16)
  deriving DecidableEq, Repr

/-- Action of a TOGGLE (R183). -/
inductive Action where
  | flip | on | off
  deriving DecidableEq, Repr

/-- Fault codes, in the order of their service values 01h–0Eh (R209). -/
inductive FaultCode where
  | linkStall | linkFault | captureVetoed | txFull | opDropped | storeFault | checkFail | stuck
  | supplyLost | supplyRestored | shoeFault | duplicateId | configClamped | sequenceEnd
  deriving DecidableEq, Repr

/-- Cause of a failed attempt, in the order of its LINK_FAULT values (R210). -/
inductive AttemptCause where
  | objection | broken | stall
  deriving DecidableEq, Repr

/-! ### Input pins -/

/-- The part's inputs (00_scope.md, signal groups), as the outside holds them. No command changes them:
the outside sets them between steps. -/
structure Pins where
  /-- 48 contact and button inputs, 1 active. -/
  contacts  : ChanSet
  /-- 32 piston inputs, 1 active. -/
  pistons   : BitVec 32
  /-- The shoe's analog input as the 10-bit converter reads it. -/
  shoe      : Fin 1024
  /-- Coil supply sense, true high. -/
  supply    : Bool
  /-- What the store memory would answer to a status query: true ready. -/
  memReady  : Bool
  /-- The four station-number straps in binary. -/
  straps    : Station
  /-- The SAFE strap, true tied. -/
  safeStrap : Bool
  /-- Some other station pulls LCK low. -/
  lckLow    : Bool
  /-- Some other station pulls LDA low. -/
  ldaLow    : Bool
  deriving DecidableEq, Repr

/-! ### Start-up and configuration -/

/-- What a start holds: the straps as read, the image outcome, and the two start timers (R214, R215,
R220–R222). -/
structure Start where
  station   : Station
  safeStrap : Bool
  /-- Image outcome, `none` before the load event. -/
  outcome   : Option ImageOutcome
  /-- The mode settled at the load is SAFE. -/
  safe      : Bool
  /-- The memory poll of the start: running from the reset to the load event. -/
  poll      : Option Nat
  /-- The start-up wait: running from the load event to the completion event. -/
  wait      : Option Nat
  /-- No time has passed since the reset: the status poll of the reset event itself can still be taken
  (R73, R220). -/
  atReset   : Bool
  deriving DecidableEq, Repr

/-- The values and tables loaded from the image, after clamping (R216–R218). -/
structure Params where
  p            : Nat
  tmax         : Nat
  tover        : Nat
  tsettle      : Nat
  contactTdb   : Nat
  pistonTdb    : Nat
  rate         : BitRate
  g            : Nat
  s            : Nat
  h            : Nat
  levelRole    : Bool
  shoeRole     : Bool
  /-- Expected-station mask, bit n for station n. -/
  mask         : BitVec 16
  /-- Journal filter, bits 0–4: exclude RECALL, CAPTURE, CANCEL, TOGGLE, MIRROR. -/
  filter       : BitVec 5
  indicators   : Vector IndicatorFn 8
  pistonFns    : Vector PistonFn 32
  participation : Vector Byte 128
  /-- Crescendo tables: program, channel, (entry, exit). -/
  crescendo    : Vector (Vector (Fin 60 × Fin 60) 48) 4
  deriving DecidableEq, Repr

/-! ### Channel Unit -/

/-- A channel record (R1) with its debounce count (R3). The speaking field of the 48 records stands as one
set in `Relay.speaking`. -/
structure Channel where
  type       : ChanType
  division   : Fin 16
  stop       : Fin 1024
  tutti      : Bool
  contact    : Bool
  count      : Nat
  registered : Bool
  fault      : Bool
  drive      : Drive
  deriving DecidableEq, Repr

/-- The speaking set and the relay port (R16–R20). -/
structure Relay where
  /-- The speaking set: the speaking fields of the 48 records. -/
  speaking    : ChanSet
  /-- The shift set while shifting, `none` while the port is idle. -/
  shift       : Option ChanSet
  /-- µs of the shift in progress. -/
  shiftUs     : Nat
  further     : Bool
  /-- The station's last latched set, `none` when unknown. -/
  lastLatched : Option ChanSet
  /-- The relay's output register: what the pipes follow. No reset touches it (log 8). -/
  pipes       : ChanSet
  deriving DecidableEq, Repr

/-! ### Operations and journal -/

/-- What an operation is to do (R23). -/
inductive OpBody where
  | recall (level : Fin 256) (slot : Fin 128)
  | capture (level : Fin 256) (slot : Fin 128)
  | cancel (scope : Scope)
  | toggle (stop : Fin 1024) (action : Action)
  | mirror (stop : Fin 1024) (on : Bool)
  deriving DecidableEq, Repr

/-- State of an operation-list entry (R23). -/
inductive OpState where
  | waiting | fetching | storing
  deriving DecidableEq, Repr

/-- An entry of the operation list (R23). `asked` marks a RECALL that was taken up while a fetch was in
flight and waits at the head for it (R31); it is the model's own (log 17). `record` is the record reference (R206). -/
structure OpEntry where
  body     : OpBody
  origin   : Station
  affected : ChanSet
  state    : OpState
  asked    : Bool
  record   : Option (Fin 32)
  deriving DecidableEq, Repr

/-- Counts and fault list of a drive operation (R38, R202). -/
structure Counts where
  planned   : Word
  done      : Word
  yielded   : Word
  retries   : Word
  carried   : Word
  faultList : List Chan
  further   : Word
  deriving DecidableEq, Repr

/-- The DRIVING operation with its counts (R36, R38). -/
structure Driving where
  body   : OpBody
  origin : Station
  counts : Counts
  record : Option (Fin 32)
  deriving DecidableEq, Repr

/-- The Operation Sequencer: the operation list, oldest first, and the DRIVING operation (R22). -/
structure Sequencer where
  list    : List OpEntry
  driving : Option Driving
  deriving DecidableEq, Repr

/-- What a journal record is about (R202). -/
inductive Subject where
  | recall (level : Fin 256) (slot : Fin 128)
  | capture (level : Fin 256) (slot : Fin 128)
  | cancel (scope : Scope)
  | toggle (stop : Fin 1024)
  | mirror (stop : Fin 1024)
  | fault (code : FaultCode) (p0 p1 p2 p3 : Byte)
  deriving DecidableEq, Repr

/-- Record states (R204). -/
inductive RecState where
  | opened | closed | superseded | failed | dropped
  deriving DecidableEq, Repr

/-- A journal record (R202). `outcome` is the code field of a FAILED operation record. -/
structure Record where
  number  : Word
  subject : Subject
  origin  : Station
  state   : RecState
  outcome : Option FaultCode
  counts  : Counts
  tOpen   : Word
  tClose  : Option Word
  deriving DecidableEq, Repr

/-- The journal: 32 positions, the counts *held* and *next*, the sequence counter and the time tag (R201,
R203). -/
structure Journal where
  records : Vector (Option Record) 32
  held    : Nat
  next    : Fin 32
  number  : Word
  timeTag : Word
  deriving DecidableEq, Repr

/-! ### Drive Scheduler -/

/-- A pending-move queue entry (R49). -/
structure Move where
  chan    : Chan
  dir     : Bool
  attempt : Attempt
  deriving DecidableEq, Repr

/-- The Drive Scheduler's queue, head first, supply state and restore timer (R49, R62). -/
structure DriveSched where
  queue   : List Move
  supply  : Supply
  restore : Option Nat
  deriving DecidableEq, Repr

/-! ### Store Controller -/

/-- Target of a write (R79). -/
inductive Target where
  | slot (level : Fin 256) (slot : Fin 128)
  | lockByte (n : Fin 32)
  | calibration
  | image (page : Fin 4) (first : Fin 256) (length : Nat)
  deriving DecidableEq, Repr

/-- A write-queue entry (R79). -/
structure WriteEntry where
  target   : Target
  data     : List Byte
  inFlight : Bool
  capture  : Option (Fin 32)
  deriving DecidableEq, Repr

/-- A request of the fetch path (R85). -/
inductive FetchReq where
  | recall (level : Fin 256) (slot : Fin 128)
  | slotRead (level : Fin 256) (slot : Fin 128)
  | imageRead (offset length : Nat)
  deriving DecidableEq, Repr

/-- The fetch in flight: its request, and its result once served (R85–R87). -/
structure Fetch where
  req    : FetchReq
  result : Option (List Byte)
  deriving DecidableEq, Repr

/-- The Store Controller (R72–R94). -/
structure Store where
  mem        : MemState
  queue      : List WriteEntry
  writeTimer : Option Nat
  fetch      : Option Fetch
  /-- Deferred marks of the lock bytes, bit n for byte n (R81). -/
  lockMarks  : BitVec 32
  calMark    : Bool
  /-- Lock table copy, bit n for level n, 1 unlocked (R74, R88). -/
  lockCopy   : BitVec 256
  c0         : Fin 1024
  c1         : Fin 1024
  /-- STORE FAULT is lit (R83, R84). -/
  faultLit   : Bool
  deriving DecidableEq, Repr

/-! ### Crescendo Unit and Piston Unit -/

/-- The shoe half of the Crescendo Unit (R97–R107). -/
structure Cresc where
  /-- The sample ring, oldest first. -/
  ring      : List (Fin 1024)
  filtered  : Option (Fin 1024)
  cal       : CalState
  /-- The calibration procedure: `none` IDLE, `some c` FIRST TAKEN with candidate c. -/
  procedure : Option (Fin 1024)
  stage     : Fin 60
  program   : Fin 4
  lastSent  : Fin 4 × Fin 60
  interval  : Option Nat
  deriving DecidableEq, Repr

/-- A piston input: debounced state and debounce count (R123). -/
structure Piston where
  pressed : Bool
  count   : Nat
  deriving DecidableEq, Repr

/-- The Piston Unit's own state (R123, R132). The function table stands in `Params`. -/
structure PistonUnit where
  inputs : Vector Piston 32
  seqEnd : Option Nat
  deriving DecidableEq, Repr

/-! ### Link Controller -/

/-- A frame this station originates, as handed to the transmit queue (R168). A TUTTI re-send and an
ANNOUNCE take their payload at START (R189). -/
inductive TxFrame where
  | cancel (scope : Scope)
  | recall (level : Fin 256) (slot : Fin 128)
  | capture (level : Fin 256) (slot : Fin 128)
  | handset (stop : Fin 1024) (on : Bool)
  | toggle (stop : Fin 1024) (action : Action)
  | tutti (on : Bool)
  | tuttiResend
  | stage (program : Fin 4) (stage : Fin 60)
  | setter (armed : Bool)
  | level (level : Fin 256)
  | announce
  deriving DecidableEq, Repr

/-- The frame in hand, its payload as completed at the last START, and its attempt count (R153, R163). -/
structure Hand where
  frame    : TxFrame
  payload  : List Byte
  attempts : Nat
  deriving DecidableEq, Repr

/-- The Link Controller (R145–R173). The fields from `bits` on serve the 1 µs time base
(log 26). -/
structure Link where
  line      : LineState
  txq       : List TxFrame
  hand      : Option Hand
  /-- The frame on the link once this station has it whole (R158); a transmitter's own frame likewise. -/
  assembly  : Option WireFrame
  objection : Bool
  /-- The hold in force for the frame on the link (R91, R165). -/
  hold      : Bool
  veto      : Bool
  stretch   : Option Nat
  linkFault : Option Nat
  /-- This station pulls LCK low. -/
  outLck    : Bool
  /-- This station pulls LDA low. -/
  outLda    : Bool
  /-- Bits sampled since START, in order, the slots included. -/
  bits      : List Bool
  /-- µs of a transmitter's current half-bit. -/
  half      : Nat
  /-- µs of the idle count, or of high time in SEEKING. -/
  idleUs    : Nat
  /-- The levels of LCK and LDA at the last µs, true high. -/
  prevLck   : Bool
  prevLda   : Bool
  inFrame   : Option Nat
  stall     : Nat
  /-- A stall was taken and LCK has not been high since (R167). -/
  stalled   : Bool
  deriving DecidableEq, Repr

/-! ### Console View -/

/-- A roster entry; its station number is its position (R190). -/
structure RosterEntry where
  levelRole  : Bool
  shoeRole   : Bool
  firstHeard : Word
  lastHeard  : Word
  deriving DecidableEq, Repr

/-- The Console View (R175), with the READY condition as last judged (R194), false before that (log 28). -/
structure View where
  level         : Fin 256
  lastRecall    : Option (Fin 256 × Fin 128)
  setter        : Bool
  tutti         : Bool
  tuttiOrigin   : Option Station
  program       : Fin 4
  stage         : Fin 60
  roster        : Vector (Option RosterEntry) 16
  fresh         : Bool
  duplicateSeen : Bool
  mode          : Mode
  ready         : Bool
  deriving DecidableEq, Repr

/-! ### Service Port, indicators, time base -/

/-- The Service Port (R226, R229). -/
structure Port where
  state    : PortState
  assembly : List Byte
  /-- The command is marked bad by a framing error. -/
  bad      : Bool
  overlong : Bool
  gap      : Option Nat
  /-- Bytes arrived while EXECUTING or REPLYING. -/
  arrived  : Bool
  /-- The reply going out. -/
  reply    : List Byte
  /-- µs the reply has been going out. -/
  replyUs  : Nat
  deriving DecidableEq, Repr

/-- A flashing function: lit or dark, and ms of its flash timer (R236). -/
structure Flash where
  lit : Bool
  ms  : Nat
  deriving DecidableEq, Repr

/-- The two flashing functions, `none` while not flashing. -/
structure Flashes where
  cresc  : Option Flash
  seqEnd : Option Flash
  deriving DecidableEq, Repr

/-- The time base beside the time tag: µs since the last tick, the next one being due at 1000, and ms since the
last shoe conversion. -/
structure TimeBase where
  us     : Nat
  shoeMs : Nat
  deriving DecidableEq, Repr

/-- The contents of the store memory: (address, byte) pairs, addresses strictly rising, no FFh listed (log 6). -/
abbrev Memory := List Host.Cell

/-- A station. -/
structure State where
  /-- Commands waiting, first in, first out. -/
  pending  : List Instr
  pins     : Pins
  memory   : Memory
  start    : Start
  params   : Params
  channels : Vector Channel 48
  relay    : Relay
  ops      : Sequencer
  drive    : DriveSched
  store    : Store
  cresc    : Cresc
  pistons  : PistonUnit
  link     : Link
  view     : View
  journal  : Journal
  port     : Port
  flashes  : Flashes
  time     : TimeBase
  /-- The model's own: how many bytes a cut or faulted write has left open (Config.tornMask, log 7). -/
  torn     : Nat
  deriving DecidableEq, Repr

/-- No command of this block stops with a fault: the station goes on after every one of them, and what the
manual calls a fault is a journal record. The type has no constructor. -/
inductive Fault where
  deriving DecidableEq, Repr

/-- Refusals. -/
inductive Refusal where
  /-- Raised by `exec` for a command that has no meaning yet; none is left. Safe: the model stops. -/
  | notModelled (mnemonic : String)
  deriving DecidableEq, Repr

/-! ### Values after a reset -/

/-- The outside as State.reset has it: nothing active, supply present, memory ready, straps untied, link
lines released. DESIGN CHOICE (log 3). -/
def Pins.quiet : Pins :=
  { contacts := 0, pistons := 0, shoe := 0, supply := true, memReady := true, straps := 0,
    safeStrap := false, lckLow := false, ldaLow := false }

/-- R214, R220: straps read, no outcome yet, the memory poll running. -/
def Start.reset (station : Station) (safeStrap : Bool) : Start :=
  { station := station, safeStrap := safeStrap, outcome := none, safe := false, poll := some 0,
    wait := none, atReset := true }

/-- Before the load event the image values are absent (R231): here the lowest legal values, no role and
empty tables. DESIGN CHOICE (log 4). -/
def Params.reset : Params :=
  { p := 1, tmax := 10, tover := 0, tsettle := 5, contactTdb := 2, pistonTdb := 2, rate := .slow,
    g := 1, s := 8, h := 0, levelRole := false, shoeRole := false, mask := 0, filter := 0,
    indicators := Vector.replicate 8 .none, pistonFns := Vector.replicate 32 .nothing,
    participation := Vector.replicate 128 0,
    crescendo := Vector.replicate 4 (Vector.replicate 48 (0, 0)) }

/-- R21. -/
def Channel.reset : Channel :=
  { type := .plain, division := 0, stop := 1023, tutti := false, contact := false, count := 0,
    registered := false, fault := false, drive := .idle }

/-- R20, R21; the relay's own output register keeps its set. -/
def Relay.reset (pipes : ChanSet) : Relay :=
  { speaking := 0, shift := none, shiftUs := 0, further := false, lastLatched := none, pipes := pipes }

/-- R46. -/
def Sequencer.reset : Sequencer := { list := [], driving := none }

/-- A drive operation's counts as its record opens (R26). -/
def Counts.zero : Counts :=
  { planned := 0, done := 0, yielded := 0, retries := 0, carried := 0, faultList := [], further := 0 }

/-- R213, cold reset. -/
def Journal.reset : Journal :=
  { records := Vector.replicate 32 none, held := 0, next := 0, number := 0, timeTag := 0 }

/-- R70. -/
def DriveSched.reset : DriveSched := { queue := [], supply := .unsampled, restore := none }

/-- R94. -/
def Store.reset : Store :=
  { mem := .busy, queue := [], writeTimer := none, fetch := none, lockMarks := 0, calMark := false,
    lockCopy := BitVec.allOnes 256, c0 := 0, c1 := 0, faultLit := false }

/-- R121. -/
def Cresc.reset : Cresc :=
  { ring := [], filtered := none, cal := .faulted, procedure := none, stage := 0, program := 0,
    lastSent := (0, 0), interval := none }

/-- R144. -/
def PistonUnit.reset : PistonUnit :=
  { inputs := Vector.replicate 32 { pressed := false, count := 0 }, seqEnd := none }

/-- R173. -/
def Link.reset : Link :=
  { line := .off, txq := [], hand := none, assembly := none, objection := false, hold := false,
    veto := false, stretch := none, linkFault := none, outLck := false, outLda := false, bits := [],
    half := 0, idleUs := 0, prevLck := true, prevLda := true, inFrame := none, stall := 0,
    stalled := false }

/-- R199. -/
def View.reset : View :=
  { level := 0, lastRecall := none, setter := false, tutti := false, tuttiOrigin := none, program := 0,
    stage := 0, roster := Vector.replicate 16 none, fresh := true, duplicateSeen := false,
    mode := .starting, ready := false }

/-- R229. -/
def Port.reset : Port :=
  { state := .listening, assembly := [], bad := false, overlong := false, gap := none, arrived := false,
    reply := [], replyUs := 0 }

/-- R236. -/
def Flashes.reset : Flashes := { cresc := none, seqEnd := none }

/-- The time base at a cold reset (R213). DESIGN CHOICE (log 9). -/
def TimeBase.reset : TimeBase := { us := 0, shoeMs := 0 }

/-- The station right after a cold reset (R220), with an erased store memory (log 6), a silent relay (log 8) and a
quiet outside (log 3). -/
def State.reset : State :=
  { pending := [], pins := Pins.quiet, memory := [],
    start := Start.reset Pins.quiet.straps Pins.quiet.safeStrap, params := Params.reset,
    channels := Vector.replicate 48 Channel.reset, relay := Relay.reset 0, ops := Sequencer.reset,
    drive := DriveSched.reset, store := Store.reset, cresc := Cresc.reset, pistons := PistonUnit.reset,
    link := Link.reset, view := View.reset, journal := Journal.reset, port := Port.reset,
    flashes := Flashes.reset, time := TimeBase.reset, torn := 0 }

end Sys2Proof.Machine
end

