-- ==== Sys2Proof/Machine/Operands.lean ====
section
/-! DEFINITION. The formats a partner sees, written once: check codes, link frames, slot records, the
participation entry, store addresses, the configuration image, fault codes and journal records. -/

namespace Sys2Proof.Machine

/-! ### Bytes and check codes -/

/-- A number as one byte. -/
def byteOf (n : Nat) : Byte := BitVec.ofNat 8 n

/-- A 16-bit quantity as two bytes, high byte first. -/
def wordBytes (w : Word) : List Byte := [byteOf (w.toNat / 256), byteOf w.toNat]

/-- A number below 65536 as two bytes, high byte first. -/
def natBytes (n : Nat) : List Byte := wordBytes (BitVec.ofNat 16 n)

/-- Yes or no as 01h or 00h (R231). -/
def boolByte (b : Bool) : Byte := if b then 1 else 0

/-- The byte that brings the sum of all bytes to 00h modulo 256 (R227). -/
def sumByte (bs : List Byte) : Byte := 0 - bs.foldl (· + ·) 0

/-- One bit of the CRC-8 with polynomial x^8 + x^2 + x + 1 (R76). -/
def crc8Bit (c : Byte) : Byte := if c.msb then (c <<< 1) ^^^ 0x07#8 else c <<< 1

/-- One byte, most significant bit first. -/
def crc8Byte (c b : Byte) : Byte :=
  crc8Bit (crc8Bit (crc8Bit (crc8Bit (crc8Bit (crc8Bit (crc8Bit (crc8Bit (c ^^^ b))))))))

/-- The CRC-8 of slot records and frames, initial value 00h (R76, R156). -/
def crc8 (bs : List Byte) : Byte := bs.foldl crc8Byte 0

/-- One bit of the CRC-16 with polynomial 1021h (R215). -/
def crc16Bit (c : Word) : Word := if c.msb then (c <<< 1) ^^^ 0x1021#16 else c <<< 1

/-- One byte, most significant bit first. -/
def crc16Byte (c : Word) (b : Byte) : Word :=
  crc16Bit (crc16Bit (crc16Bit (crc16Bit (crc16Bit (crc16Bit (crc16Bit (crc16Bit
    (c ^^^ (b.setWidth 16 <<< 8)))))))))

/-- The CRC-16 of the image, initial value FFFFh (R215). -/
def crc16 (bs : List Byte) : Word := bs.foldl crc16Byte 0xFFFF#16

/-! ### Link frames (R154, R178) -/

/-- What a frame of kind 0–9 says, its payload fields as sent, values to be ignored among them. -/
inductive Msg where
  | cancel (scope : Byte)
  | recall (level slot : Byte)
  | capture (level slot : Byte)
  | handset (on : Bool) (stop : Fin 1024)
  | toggle (action : Fin 4) (stop : Fin 1024)
  | tutti (on : Bool)
  | stage (program : Fin 4) (stage : Fin 64)
  | setter (armed : Bool)
  | level (level : Byte)
  | announce (levelRole shoeRole fresh : Bool) (viewLevel : Byte)
  deriving DecidableEq, Repr

/-- The mark of a delivered frame (R157). -/
inductive Mark where
  | transmitted | received
  deriving DecidableEq, Repr

/-- Kind code of a message (R154). -/
def Msg.kind : Msg → Nat
  | .cancel _ => 0
  | .recall _ _ => 1
  | .capture _ _ => 2
  | .handset _ _ => 3
  | .toggle _ _ => 4
  | .tutti _ => 5
  | .stage _ _ => 6
  | .setter _ => 7
  | .level _ => 8
  | .announce _ _ _ _ => 9

/-- Payload bytes of a kind; codes 10–15 are taken as no payload (R154). -/
def payloadLength (kind : Nat) : Nat :=
  match kind with
  | 0 | 5 | 6 | 7 | 8 => 1
  | 1 | 2 | 3 | 4 | 9 => 2
  | _ => 0

/-- Header byte: kind in bits 7–4, origin in bits 3–0 (R154). -/
def headerByte (kind : Nat) (origin : Station) : Byte := byteOf (kind * 16 + origin.val)

/-- Kind code of a header. -/
def headerKind (h : Byte) : Nat := h.toNat / 16

/-- Origin station of a header. -/
def headerOrigin (h : Byte) : Station := Fin.ofNat 16 h.toNat

/-- High payload byte of a stop number: bits 1–0 are its bits 9–8. -/
def stopHigh (s : Fin 1024) : Nat := s.val / 256

/-- The stop number of two payload bytes. -/
def stopOf (b0 b1 : Byte) : Fin 1024 := Fin.ofNat 1024 (b0.toNat % 4 * 256 + b1.toNat)

/-- Payload of a message (R178). -/
def Msg.payload : Msg → List Byte
  | .cancel scope => [scope]
  | .recall l s => [l, s]
  | .capture l s => [l, s]
  | .handset on stop => [byteOf ((if on then 128 else 0) + stopHigh stop), byteOf stop.val]
  | .toggle a stop => [byteOf (a.val * 64 + stopHigh stop), byteOf stop.val]
  | .tutti on => [boolByte on]
  | .stage p st => [byteOf (p.val * 64 + st.val)]
  | .setter armed => [boolByte armed]
  | .level l => [l]
  | .announce lr sr fr l => [byteOf ((if lr then 1 else 0) + (if sr then 2 else 0) + (if fr then 4 else 0)), l]

/-- The message of a kind code and payload as a receiver takes it (R178); bits "sent as 0" are not looked
at. `none` for kinds 10–15 and for a payload of another length. -/
def parseMsg (kind : Nat) (payload : List Byte) : Option Msg :=
  match kind, payload with
  | 0, [b] => some (.cancel b)
  | 1, [l, s] => some (.recall l s)
  | 2, [l, s] => some (.capture l s)
  | 3, [a, b] => some (.handset (decide (128 ≤ a.toNat)) (stopOf a b))
  | 4, [a, b] => some (.toggle (Fin.ofNat 4 (a.toNat / 64)) (stopOf a b))
  | 5, [b] => some (.tutti (decide (b ≠ 0)))
  | 6, [b] => some (.stage (Fin.ofNat 4 (b.toNat / 64)) (Fin.ofNat 64 b.toNat))
  | 7, [b] => some (.setter (decide (b ≠ 0)))
  | 8, [l] => some (.level l)
  | 9, [a, l] => some (.announce (a.getLsbD 0) (a.getLsbD 1) (a.getLsbD 2) l)
  | _, _ => none

/-- The check of a frame (R156). -/
def frameCheck (header : Byte) (payload : List Byte) : Byte := crc8 (header :: payload)

/-- A frame has the length its kind requires. -/
def frameWholeLength (f : WireFrame) : Bool := decide (f.payload.length = payloadLength (headerKind f.header))

/-- The check of a frame is good (R156). -/
def frameGood (f : WireFrame) : Bool := decide (frameCheck f.header f.payload = f.check)

/-- The message of a whole frame. -/
def frameMsg (f : WireFrame) : Option Msg := parseMsg (headerKind f.header) f.payload

/-- The frame a station with this header and payload sends. -/
def wireFrame (kind : Nat) (origin : Station) (payload : List Byte) : WireFrame :=
  { header := headerByte kind origin, payload := payload,
    check := frameCheck (headerByte kind origin) payload }

/-- Kind code of an originated frame. -/
def TxFrame.kind : TxFrame → Nat
  | .cancel _ => 0
  | .recall _ _ => 1
  | .capture _ _ => 2
  | .handset _ _ => 3
  | .toggle _ _ => 4
  | .tutti _ => 5
  | .tuttiResend => 5
  | .stage _ _ => 6
  | .setter _ => 7
  | .level _ => 8
  | .announce => 9

/-- Scope byte: FFh the whole console, 00h–0Fh a division (R179). -/
def scopeByte : Scope → Byte
  | .console => 0xFF
  | .division d => byteOf d.val

/-- Scope of a byte; 10h–FEh is ignored (R179). -/
def scopeOf (b : Byte) : Option Scope :=
  if b = 0xFF then some .console
  else if b.toNat < 16 then some (.division (Fin.ofNat 16 b.toNat))
  else none

/-- Action code (R183). -/
def actionCode : Action → Fin 4
  | .flip => 0
  | .on => 1
  | .off => 2

/-- Action of a code; 3 is ignored (R183). -/
def actionOf (a : Fin 4) : Option Action :=
  match a with
  | 0 => some .flip
  | 1 => some .on
  | 2 => some .off
  | 3 => none

/-- The message of an originated frame. An ANNOUNCE and a TUTTI re-send take theirs from the station's roles
and view at the START of each attempt (R189). -/
def txMsg (levelRole shoeRole : Bool) (v : View) : TxFrame → Msg
  | .cancel scope => .cancel (scopeByte scope)
  | .recall l s => .recall (byteOf l.val) (byteOf s.val)
  | .capture l s => .capture (byteOf l.val) (byteOf s.val)
  | .handset stop on => .handset on stop
  | .toggle stop a => .toggle (actionCode a) stop
  | .tutti on => .tutti on
  | .tuttiResend => .tutti v.tutti
  | .stage p st => .stage p (Fin.ofNat 64 st.val)
  | .setter armed => .setter armed
  | .level l => .level (byteOf l.val)
  | .announce => .announce levelRole shoeRole v.fresh (byteOf v.level.val)

/-- Coalescing classes of the transmit queue (R169). -/
inductive TxClass where
  | driveOrigin
  | handset (stop : Fin 1024)
  | toggle (stop : Fin 1024)
  | tutti
  | stage
  | setter
  | level
  | announce
  deriving DecidableEq, Repr

/-- The class of an originated frame (R169). -/
def TxFrame.cls : TxFrame → TxClass
  | .cancel _ => .driveOrigin
  | .recall _ _ => .driveOrigin
  | .capture _ _ => .driveOrigin
  | .handset stop _ => .handset stop
  | .toggle stop _ => .toggle stop
  | .tutti _ => .tutti
  | .tuttiResend => .tutti
  | .stage _ _ => .stage
  | .setter _ => .setter
  | .level _ => .level
  | .announce => .announce

/-- A TOGGLE whose action is flip. -/
def TxFrame.isFlip : TxFrame → Bool
  | .toggle _ .flip => true
  | _ => false

/-! ### Slot records (R75–R77) -/

/-- The six pattern bytes of a set of channels: channel c is bit c mod 8 of byte c div 8. -/
def patternBytes (x : ChanSet) : List Byte :=
  [x.extractLsb' 0 8, x.extractLsb' 8 8, x.extractLsb' 16 8, x.extractLsb' 24 8, x.extractLsb' 32 8,
    x.extractLsb' 40 8]

/-- Six bytes as a set of channels: channel c is bit c mod 8 of byte c div 8. -/
def bytesSet (bs : List Byte) : ChanSet :=
  (bs.getD 0 0).setWidth 48 ||| ((bs.getD 1 0).setWidth 48 <<< 8) ||| ((bs.getD 2 0).setWidth 48 <<< 16)
    ||| ((bs.getD 3 0).setWidth 48 <<< 24) ||| ((bs.getD 4 0).setWidth 48 <<< 32)
    ||| ((bs.getD 5 0).setWidth 48 <<< 40)

/-- A WRITTEN record of a pattern: state 5Ah and the check over bytes 0–6 (R75, R76). -/
def writtenRecord (x : ChanSet) : List Byte :=
  let body := patternBytes x ++ [0x5A#8]
  body ++ [crc8 body]

/-- Classification of a slot record (R77). -/
inductive Classification where
  | blank
  | written (pattern : ChanSet)
  | corrupt
  deriving DecidableEq, Repr

/-- Classification by state byte and check (R77). -/
def classify (r : List Byte) : Classification :=
  if r.getD 6 0 = 0xFF then .blank
  else if r.getD 6 0 = 0x5A ∧ crc8 (r.take 7) = r.getD 7 0 then .written (bytesSet r)
  else .corrupt

/-- Classification byte of a SLOT READ (R228). -/
def Classification.byte : Classification → Byte
  | .blank => 0
  | .written _ => 1
  | .corrupt => 2

/-! ### Participation entry (R78) -/

/-- What a participation entry names; mode 3 is taken as NONE. -/
inductive Participation where
  | none
  | all
  | division (d : Fin 16)
  deriving DecidableEq, Repr

/-- Bits 7–6 mode, bits 3–0 division (R78). -/
def participationOf (b : Byte) : Participation :=
  match b.toNat / 64 with
  | 1 => .all
  | 2 => .division (Fin.ofNat 16 b.toNat)
  | _ => .none

/-! ### Store addresses (R74) -/

/-- Address of a slot record. -/
def slotAddress (level : Fin 256) (slot : Fin 128) : Nat := 0x40000 + (level.val * 128 + slot.val) * 8

/-- First address of a write target (R74, R79). -/
def targetAddress : Target → Nat
  | .slot l s => slotAddress l s
  | .lockByte n => 0x400 + n.val
  | .calibration => 0x420
  | .image page first _ => page.val * 256 + first.val

/-- Byte n of the lock table copy (R74). -/
def lockByteOf (copy : BitVec 256) (n : Fin 32) : Byte := copy.extractLsb' (n.val * 8) 8

/-- The lock table copy of 32 bytes (R74): byte n holds levels 8n to 8n + 7. -/
def lockCopyOf (bs : List Byte) : BitVec 256 :=
  bs.foldr (fun b acc => (acc <<< 8) ||| b.setWidth 256) 0

/-- The four calibration bytes, low byte first in each word (R74). -/
def calibrationBytes (c0 c1 : Fin 1024) : List Byte :=
  [byteOf c0.val, byteOf (c0.val / 256), byteOf c1.val, byteOf (c1.val / 256)]

/-- A calibration word, low byte first; above 1023 it is taken as 1023 (R92). -/
def calibrationWord (lo hi : Byte) : Fin 1024 :=
  Fin.ofNat 1024 (min 1023 (hi.toNat * 256 + lo.toNat))

/-- The page ranges of an image range of 1 to 64 bytes: one, or two where it crosses a page (R79, R233).
The lower page stands first, and so ahead in the write queue where both are new: R80 gives the two no order. DESIGN
CHOICE (log 33). -/
def imageTargets (offset : Nat) (data : List Byte) : List (Target × List Byte) :=
  let page := offset / 256
  let first := offset % 256
  let room := 256 - first
  if data.length ≤ room then
    [(.image (Fin.ofNat 4 page) (Fin.ofNat 256 first) data.length, data)]
  else
    [(.image (Fin.ofNat 4 page) (Fin.ofNat 256 first) room, data.take room),
      (.image (Fin.ofNat 4 (page + 1)) 0 (data.length - room), data.drop room)]

/-! ### The configuration image (R215–R218) -/

/-- A byte of the image as read; bytes past the read part are not looked at. -/
def imgByte (img : List Byte) (off : Nat) : Nat := (img.getD off 0).toNat

/-- A two-byte field, high byte first. -/
def imgWord (img : List Byte) (off : Nat) : Nat := imgByte img off * 256 + imgByte img (off + 1)

/-- The three tests of the image, in order (R215). -/
def judgeImage (img : List Byte) : ImageOutcome :=
  if ¬ (imgByte img 0 = 0xCA ∧ imgByte img 1 = 0x48) then .signature
  else if imgWord img 2 ≠ 0x320 then .length
  else if (crc16 ((img.drop 6).take 800)).toNat ≠ imgWord img 4 then .check
  else .passed

/-- A number held to its legal range (R218). -/
def clampTo (lo hi v : Nat) : Nat := max lo (min hi v)

/-- One image field: the offset of its first byte, its content and the value taken (R218). -/
structure Field where
  offset : Nat
  value  : Nat
  taken  : Nat
  deriving DecidableEq, Repr

/-- A number field with a legal range. -/
def numField (offset value lo hi : Nat) : Field := ⟨offset, value, clampTo lo hi value⟩

/-- A code field: codes above the last legal one are taken as `other`. -/
def codeField (offset value last other : Nat) : Field := ⟨offset, value, if value ≤ last then value else other⟩

/-- Offset of channel c's entry (R216). -/
def chanOffset (c : Nat) : Nat := 0x20 + 4 * c

/-- Type, division and stop number of channel c (R217). -/
def chanFields (img : List Byte) (c : Nat) : List Field :=
  [codeField (chanOffset c) (imgByte img (chanOffset c) % 4) 2 0,
    numField (chanOffset c + 1) (imgByte img (chanOffset c + 1)) 0 15,
    numField (chanOffset c + 2) (imgWord img (chanOffset c + 2)) 0 1023]

/-- Offset of piston input i's entry (R216). -/
def pistonOffset (i : Nat) : Nat := 0xE0 + 2 * i

/-- Function code of a piston entry (R217). -/
def pistonCode (img : List Byte) (i : Nat) : Nat := imgByte img (pistonOffset i) / 16

/-- Argument bits 9–0 of a piston entry (R217). -/
def pistonArg (img : List Byte) (i : Nat) : Nat :=
  imgByte img (pistonOffset i) % 4 * 256 + imgByte img (pistonOffset i + 1)

/-- Highest legal argument of a function code that uses one (R217). -/
def pistonArgMax (code : Nat) : Option Nat :=
  match code with
  | 1 => some 127
  | 6 => some 15
  | 7 => some 1023
  | 12 => some 3
  | _ => none

/-- Function and argument of piston input i; an entry taken as NONE has its argument ignored (R218). A
clamped argument is journaled with the entry's offset. DEDUCED (log 22). -/
def pistonFields (img : List Byte) (i : Nat) : List Field :=
  codeField (pistonOffset i) (pistonCode img i) 13 0 ::
    (match pistonArgMax (pistonCode img i) with
      | some m => [numField (pistonOffset i) (pistonArg img i) 0 m]
      | none => [])

/-- Offset of program p, channel c in the crescendo tables (R113). -/
def crescOffset (p c : Nat) : Nat := 0x1A0 + (p * 48 + c) * 2

/-- Every field that can be clamped, in ascending order of offset (R216, R218). -/
def imageFields (img : List Byte) : List Field :=
  [numField 0x06 (imgByte img 0x06) 1 12, numField 0x07 (imgByte img 0x07) 10 250,
    numField 0x08 (imgByte img 0x08) 0 30, numField 0x09 (imgByte img 0x09) 5 50,
    codeField 0x0B (imgByte img 0x0B % 4) 2 2, numField 0x0C (imgByte img 0x0C) 1 128,
    numField 0x0D (imgByte img 0x0D) 8 60, numField 0x0E (imgByte img 0x0E) 0 50]
  ++ (List.range 8).map (fun k => codeField (0x13 + k) (imgByte img (0x13 + k)) 9 0)
  ++ (List.range 48).flatMap (chanFields img)
  ++ (List.range 32).flatMap (pistonFields img)
  ++ (List.range 384).map (fun k => numField (0x1A0 + k) (imgByte img (0x1A0 + k)) 0 59)

/-- The fields a load clamps, each with the value taken (R218). -/
def clampedFields (img : List Byte) : List (Nat × Nat) :=
  ((imageFields img).filter (fun f => f.taken ≠ f.value)).map (fun f => (f.offset, f.taken))

/-- A debounce time of its code, ms (R216). -/
def tdbOf (code : Nat) : Nat :=
  match code % 4 with
  | 0 => 2
  | 1 => 4
  | 2 => 8
  | _ => 16

/-- Contact Tdb of an image (R216). -/
def contactTdbOf (img : List Byte) : Nat := tdbOf (imgByte img 0x0A)

/-- Bit rate of its code; 3 is taken as 2 (R216, R218). -/
def rateOf (code : Nat) : BitRate :=
  match code with
  | 0 => .slow
  | 1 => .medium
  | _ => .fast

/-- Channel type of its code; 3 is taken as PLAIN (R217, R218). -/
def typeOf (code : Nat) : ChanType :=
  match code with
  | 1 => .moved
  | 2 => .lit
  | _ => .plain

/-- Indicator function of its code; 10–255 are taken as none (R216, R218). -/
def indicatorOf (code : Nat) : IndicatorFn :=
  match code with
  | 1 => .ready
  | 2 => .setter
  | 3 => .locked
  | 4 => .storeFault
  | 5 => .linkFault
  | 6 => .stuck
  | 7 => .cresc
  | 8 => .tutti
  | 9 => .seqEnd
  | _ => .none

/-- Code of an indicator function (R216). -/
def indicatorCode : IndicatorFn → Nat
  | .none => 0
  | .ready => 1
  | .setter => 2
  | .locked => 3
  | .storeFault => 4
  | .linkFault => 5
  | .stuck => 6
  | .cresc => 7
  | .tutti => 8
  | .seqEnd => 9

/-- Piston function of its code and argument, clamped (R217, R218). -/
def pistonFnOf (code arg : Nat) : PistonFn :=
  match code with
  | 1 => .recall (Fin.ofNat 128 (min 127 arg))
  | 2 => .next
  | 3 => .prev
  | 4 => .set
  | 5 => .cancelAll
  | 6 => .cancelDiv (Fin.ofNat 16 (min 15 arg))
  | 7 => .toggle (Fin.ofNat 1024 arg)
  | 8 => .tutti
  | 9 => .levelUp
  | 10 => .levelDown
  | 11 => .lock
  | 12 => .program (Fin.ofNat 4 (min 3 arg))
  | 13 => .calibrate
  | _ => .nothing

/-- A crescendo byte; above 59 it is taken as 59 (R113). -/
def crescValue (v : Nat) : Fin 60 := Fin.ofNat 60 (min 59 v)

/-- The loaded values and tables of an image that passed (R216–R218). -/
def paramsOf (img : List Byte) : Params :=
  { p := clampTo 1 12 (imgByte img 0x06)
    tmax := clampTo 10 250 (imgByte img 0x07)
    tover := clampTo 0 30 (imgByte img 0x08)
    tsettle := clampTo 5 50 (imgByte img 0x09)
    contactTdb := contactTdbOf img
    pistonTdb := tdbOf (imgByte img 0x0A / 16)
    rate := rateOf (imgByte img 0x0B % 4)
    g := clampTo 1 128 (imgByte img 0x0C)
    s := clampTo 8 60 (imgByte img 0x0D)
    h := clampTo 0 50 (imgByte img 0x0E)
    levelRole := (img.getD 0x0F 0).getLsbD 0
    shoeRole := (img.getD 0x0F 0).getLsbD 1
    mask := BitVec.ofNat 16 (imgWord img 0x10)
    filter := BitVec.ofNat 5 (imgByte img 0x12)
    indicators := Vector.ofFn (fun k => indicatorOf (imgByte img (0x13 + k.val)))
    pistonFns := Vector.ofFn (fun i => pistonFnOf (pistonCode img i.val) (pistonArg img i.val))
    participation := Vector.ofFn (fun n => img.getD (0x120 + n.val) 0)
    crescendo := Vector.ofFn (fun p => Vector.ofFn (fun c =>
      (crescValue (imgByte img (crescOffset p.val c.val)),
        crescValue (imgByte img (crescOffset p.val c.val + 1))))) }

/-- Channel c's record as loaded (R1, R217); the tutti member comes from the tutti set (R117). -/
def channelOf (img : List Byte) (c : Chan) : Channel :=
  { Channel.reset with
    type := typeOf (imgByte img (chanOffset c.val) % 4)
    division := Fin.ofNat 16 (min 15 (imgByte img (chanOffset c.val + 1)))
    stop := Fin.ofNat 1024 (min 1023 (imgWord img (chanOffset c.val + 2)))
    tutti := (bytesSet ((img.drop 0x320).take 6)).has c }

/-! ### Codes of the service line -/

/-- Service value of a fault code (R209). -/
def FaultCode.value : FaultCode → Nat
  | .linkStall => 1
  | .linkFault => 2
  | .captureVetoed => 3
  | .txFull => 4
  | .opDropped => 5
  | .storeFault => 6
  | .checkFail => 7
  | .stuck => 8
  | .supplyLost => 9
  | .supplyRestored => 10
  | .shoeFault => 11
  | .duplicateId => 12
  | .configClamped => 13
  | .sequenceEnd => 14

/-- Position of a mode in its owning rule's list (R175, R231). -/
def Mode.value : Mode → Nat
  | .starting => 0
  | .run => 1
  | .listen => 2
  | .safe => 3

/-- Position of an image outcome (R231). -/
def ImageOutcome.value : ImageOutcome → Nat
  | .passed => 0
  | .signature => 1
  | .length => 2
  | .check => 3

/-- Position of a line state (R147). -/
def LineState.value : LineState → Nat
  | .off => 0
  | .seeking => 1
  | .idle => 2
  | .receiving => 3
  | .sending => 4

/-- Line state of a LINK_STALL parameter (R210). -/
def LineState.stallValue : LineState → Nat
  | .off => 0
  | .seeking => 0
  | .idle => 1
  | .receiving => 2
  | .sending => 3

/-- Position of a supply state (R62). -/
def Supply.value : Supply → Nat
  | .present => 0
  | .lost => 1
  | .waiting => 2
  | .unsampled => 3

/-- Position of a drive state (R231). -/
def Drive.value : Drive → Nat
  | .idle => 0
  | .queued => 1
  | .energized _ _ _ _ => 2
  | .settling _ _ _ => 3
  | .held _ _ => 4

/-- Code of a channel type (R231). -/
def ChanType.value : ChanType → Nat
  | .plain => 0
  | .moved => 1
  | .lit => 2

/-- Position of an operation kind (R23). -/
def OpBody.kind : OpBody → Nat
  | .recall _ _ => 0
  | .capture _ _ => 1
  | .cancel _ => 2
  | .toggle _ _ => 3
  | .mirror _ _ => 4

/-- Position of an entry state (R23). -/
def OpState.value : OpState → Nat
  | .waiting => 0
  | .fetching => 1
  | .storing => 2

/-- Code of a bit rate (R216). -/
def BitRate.code : BitRate → Nat
  | .slow => 0
  | .medium => 1
  | .fast => 2

/-- Bit time of a rate, µs (R146). -/
def BitRate.bitUs : BitRate → Nat
  | .slow => 16
  | .medium => 8
  | .fast => 4

/-- Half-bit of a rate, µs (R146). -/
def BitRate.halfUs : BitRate → Nat
  | .slow => 8
  | .medium => 4
  | .fast => 2

/-- Cause of a LINK_FAULT's last attempt (R210). -/
def AttemptCause.value : AttemptCause → Nat
  | .objection => 0
  | .broken => 1
  | .stall => 2

/-! ### The journal record as read (R212) -/

/-- Kind byte of a record. -/
def Subject.kind : Subject → Nat
  | .recall _ _ => 0
  | .capture _ _ => 1
  | .cancel _ => 2
  | .toggle _ => 3
  | .mirror _ => 4
  | .fault _ _ _ _ _ => 5

/-- Bytes 6–9 of a record. -/
def Subject.bytes : Subject → List Byte
  | .recall l s => [byteOf l.val, byteOf s.val, 0, 0]
  | .capture l s => [byteOf l.val, byteOf s.val, 0, 0]
  | .cancel sc => [scopeByte sc, 0, 0, 0]
  | .toggle st => natBytes st.val ++ [0, 0]
  | .mirror st => natBytes st.val ++ [0, 0]
  | .fault _ p0 p1 p2 p3 => [p0, p1, p2, p3]

/-- State byte of a record. -/
def RecState.value : RecState → Nat
  | .opened => 0
  | .closed => 1
  | .superseded => 2
  | .failed => 3
  | .dropped => 4

/-- Code byte of a record: its fault code, or the outcome of a FAILED operation (R202, R209). -/
def Record.codeByte (r : Record) : Byte :=
  match r.subject, r.outcome with
  | .fault c _ _ _ _, _ => byteOf c.value
  | _, some c => byteOf c.value
  | _, none => 0

/-- Place n of a fault list; FFh where unused (R212). -/
def faultPlace (l : List Chan) (n : Nat) : Byte :=
  match l[n]? with
  | some c => byteOf c.val
  | none => 0xFF

/-- The 30 bytes of a record (R212). -/
def Record.bytes (r : Record) : List Byte :=
  wordBytes r.number ++ [byteOf r.subject.kind, byteOf r.state.value, byteOf r.origin.val, r.codeByte]
  ++ r.subject.bytes ++ wordBytes r.counts.planned ++ wordBytes r.counts.done
  ++ wordBytes r.counts.yielded ++ wordBytes r.counts.retries ++ wordBytes r.counts.carried
  ++ [faultPlace r.counts.faultList 0, faultPlace r.counts.faultList 1, faultPlace r.counts.faultList 2,
      faultPlace r.counts.faultList 3, byteOf r.counts.further.toNat, boolByte r.tClose.isSome]
  ++ wordBytes r.tOpen ++ wordBytes (r.tClose.getD 0)

/-- The *no record* layout: kind FFh and zero in every other byte (R211). -/
def noRecordBytes : List Byte := [0, 0, 0xFF] ++ List.replicate 27 0

/-- The subject of an operation's record (R26). -/
def OpBody.subject : OpBody → Subject
  | .recall l s => .recall l s
  | .capture l s => .capture l s
  | .cancel sc => .cancel sc
  | .toggle st _ => .toggle st
  | .mirror st _ => .mirror st

end Sys2Proof.Machine
end

