-- ==== Sys2Proof/Machine/Flags.lean ====
section
/-! DEFINITION. Conditions and outputs that follow from the state: counts over the channels, the speaking
condition, roles, the READY condition, and what each output pin shows. An output is stored nowhere; it is
read off the state it shows, so it changes in the same event (R235, R237). -/

namespace Sys2Proof.Machine

/-! ### Channels -/

/-- Number of channels that satisfy a condition. -/
def countChans (f : Chan → Bool) : Nat := ((List.finRange 48).filter f).length

/-- The set of the channels below n that satisfy a condition. -/
def chanSetBelow (f : Chan → Bool) : Nat → ChanSet
  | 0 => 0
  | n + 1 =>
    if h : n < 48 then
      if f ⟨n, h⟩ then chanSetBelow f n ||| BitVec.twoPow 48 n else chanSetBelow f n
    else chanSetBelow f n

/-- The set of the channels that satisfy a condition. -/
def chanSet (f : Chan → Bool) : ChanSet := chanSetBelow f 48

/-- A channel is ENERGIZED (R48). -/
def Drive.isEnergized : Drive → Bool
  | .energized _ _ _ _ => true
  | _ => false

/-- A channel is HELD (R48). -/
def Drive.isHeld : Drive → Bool
  | .held _ _ => true
  | _ => false

/-- A channel is outstanding: QUEUED, ENERGIZED, SETTLING or HELD (R48). -/
def Drive.outstanding (d : Drive) : Bool := decide (d ≠ .idle)

/-- The energized count (R51). -/
def energizedCount (s : State) : Nat := countChans (fun c => s.channels[c].drive.isEnergized)

/-- The number of held moves (R65). -/
def heldCount (s : State) : Nat := countChans (fun c => s.channels[c].drive.isHeld)

/-- Some channel of the station is outstanding (R67). -/
def anyOutstanding (s : State) : Bool :=
  (List.finRange 48).any (fun c => s.channels[c].drive.outstanding)

/-- Number of channels with their fault flag set. -/
def faultedCount (s : State) : Nat := countChans (fun c => s.channels[c].fault)

/-! ### Speaking set (R16, R114, R118) -/

/-- Channel c is crescendo-added under a program and stage (R114). -/
def crescAdded (p : Params) (program : Fin 4) (stage : Fin 60) (c : Chan) : Bool :=
  let e := (p.crescendo[program][c]).1
  let x := (p.crescendo[program][c]).2
  decide (e ≠ 0) && decide (e ≤ stage) && (decide (x = 0) || decide (stage < x))

/-- Channel c is in the speaking set (R16). -/
def speaks (s : State) (c : Chan) : Bool :=
  match s.view.mode with
  | .safe => s.channels[c].contact
  | _ => s.channels[c].registered || crescAdded s.params s.view.program s.view.stage c
      || (s.view.tutti && s.channels[c].tutti)

/-- The speaking set as R16 gives it from its inputs. -/
def composedSet (s : State) : ChanSet := chanSet (speaks s)

/-! ### Roles and conditions -/

/-- RUN or LISTEN: the modes in which the station works on its operations (R44, R69, R93). -/
def working (s : State) : Bool := decide (s.view.mode = .run) || decide (s.view.mode = .listen)

/-- The load event has taken place and the samplers run (R221). -/
def sampling (s : State) : Bool := s.start.outcome.isSome

/-- The roster lists every station of the expected-station mask (R194). -/
def rosterMeetsMask (s : State) : Bool :=
  (List.finRange 16).all (fun n => !s.params.mask.getLsbD n.val || s.view.roster[n].isSome)

/-- The level's flag is locked in the lock table copy (R74, R88). -/
def locked (copy : BitVec 256) (level : Fin 256) : Bool := !copy.getLsbD level.val

/-- The span of a calibration pair (R98). -/
def calSpan (c0 c1 : Fin 1024) : Nat := (c0.val - c1.val) + (c1.val - c0.val)

/-- The calibration state of a copy (R98). -/
def judgeCal (c0 c1 : Fin 1024) : CalState := if Config.goodSpan ≤ calSpan c0 c1 then .good else .faulted

/-! ### The lines (R145; log 26) -/

/-- LCK is high: nobody pulls it low. -/
def lckHigh (s : State) : Bool := !(s.link.outLck || s.pins.lckLow)

/-- LDA is high: nobody pulls it low. -/
def ldaHigh (s : State) : Bool := !(s.link.outLda || s.pins.ldaLow)

/-- The link is quiet for a start: 4 bit times of idle, both lines high (R149, R153). -/
def quietForStart (s : State) : Bool :=
  decide (4 * s.params.rate.bitUs ≤ s.link.idleUs) && lckHigh s && ldaHigh s

/-- A frame handed over now starts in the event of its hand-over: the line IDLE, the link quiet, and no frame to
send before it (R149). -/
def startsAtOnce (s : State) : Bool :=
  decide (s.link.line = .idle) && quietForStart s && s.link.hand.isNone && decide (s.link.txq = [])

/-! ### Output pins -/

/-- ON coil output of channel c: its ON coil, or the lamp of a LIT channel (R2, R11). All are released in
STARTING and SAFE. -/
def onOutput (s : State) (c : Chan) : Bool :=
  working s &&
    match s.channels[c].type, s.channels[c].drive with
    | .moved, .energized dir _ _ _ => dir
    | .lit, _ => s.channels[c].registered
    | _, _ => false

/-- OFF coil output of channel c (R2). -/
def offOutput (s : State) (c : Chan) : Bool :=
  working s &&
    match s.channels[c].type, s.channels[c].drive with
    | .moved, .energized dir _ _ _ => !dir
    | _, _ => false

/-- The relay port lines RCK, RDA and RLT (R18): channel 47 first, data while RCK is low for 2 µs and then
high for 2 µs, a 2 µs latch pulse at the end; all low between shifts. -/
def relayLines (s : State) : Bool × Bool × Bool :=
  match s.relay.shift with
  | none => (false, false, false)
  | some x =>
    if s.relay.shiftUs < 192 then
      (decide (2 ≤ s.relay.shiftUs % 4), x.getLsbD (47 - s.relay.shiftUs / 4), false)
    else (false, false, true)

/-- What an indicator function shows, lit or dark at this moment (R235). -/
def fnLit (s : State) (f : IndicatorFn) : Bool :=
  match f with
  | .none => false
  | .ready => s.params.levelRole && s.view.ready
  | .setter => s.view.setter
  | .locked => s.params.levelRole && locked s.store.lockCopy s.view.level
  | .storeFault => s.store.faultLit
  | .linkFault => s.link.linkFault.isSome
  | .stuck => (List.finRange 48).any (fun c => s.channels[c].fault)
  | .cresc =>
    match s.flashes.cresc with
    | some fl => fl.lit
    | none => decide (s.view.stage ≠ 0)
  | .tutti => s.view.tutti
  | .seqEnd =>
    match s.flashes.seqEnd with
    | some fl => fl.lit
    | none => false

/-- Indicator output k: dark in STARTING and in SAFE, else what its assigned function shows (R235, R236). -/
def indicatorOutput (s : State) (k : Fin 8) : Bool := working s && fnLit s s.params.indicators[k]

/-- Level display line n (R237). -/
def levelLine (s : State) (n : Fin 8) : Bool :=
  working s && s.params.levelRole && s.view.level.val.testBit n.val

end Sys2Proof.Machine
end

