-- ==== Sys2Proof/Machine/Ops.lean ====
section
/-! DEFINITION. The shared operations on the state: the store memory, the journal, the channel records, the
transmit queue, the write queue, the fetch path and the operation list. Every meaning is built from these. -/

namespace Sys2Proof.Machine

/-- The outcome of a command that the station completes. -/
abbrev Result := Host.Outcome State Fault Refusal

/-! ### Store memory (R72, R74) -/

/-- The byte at an address; an unlisted address reads as erased, FFh. DESIGN CHOICE (log 6). -/
def memRead : Memory → Nat → Byte
  | [], _ => 0xFF
  | (k, b) :: rest, a => if k = a then b else memRead rest a

/-- Writes one byte and keeps the canonical form. -/
def memWrite : Memory → Nat → Byte → Memory
  | [], a, b => if b = 0xFF then [] else [(a, b)]
  | (k, x) :: rest, a, b =>
    if a < k then (if b = 0xFF then (k, x) :: rest else (a, b) :: (k, x) :: rest)
    else if a = k then (if b = 0xFF then rest else (a, b) :: rest)
    else (k, x) :: memWrite rest a b

/-- The canonical form of memory: addresses strictly rising, no entry that reads as an unlisted address. -/
def Memory.wf : Memory → Bool
  | [] => true
  | (k, b) :: rest => decide (b ≠ 0xFF) && rest.all (fun c => decide (k < c.1)) && Memory.wf rest

/-- n bytes from an address on, in address order. -/
def memReadRange (m : Memory) (a n : Nat) : List Byte := (List.range n).map (fun i => memRead m (a + i))

/-- Writes bytes from an address on. -/
def memWriteRange (m : Memory) (a : Nat) : List Byte → Memory
  | [] => m
  | b :: bs => memWriteRange (memWrite m a b) (a + 1) bs

/-- Bytes that a cut or faulted write leaves: old bits and new bits mixed by a free mask (R73, R84; log 7). -/
def tornBytes (n : Nat) : List Byte → List Byte → List Byte
  | o :: os, w :: ws =>
    ((o &&& Config.tornMask n) ||| (w &&& ~~~ Config.tornMask n)) :: tornBytes (n + 1) os ws
  | _, _ => []

/-- Stores a completed write (R83): the memory is taken to hold it as sent (log 27). -/
def storeWrite (e : WriteEntry) (s : State) : State :=
  { s with memory := memWriteRange s.memory (targetAddress e.target) e.data }

/-- Leaves the target of an unfinished write with a mixture of old and new bytes (R73, R84). -/
def tearWrite (e : WriteEntry) (s : State) : State :=
  { s with
    memory := memWriteRange s.memory (targetAddress e.target)
      (tornBytes s.torn (memReadRange s.memory (targetAddress e.target) e.data.length) e.data)
    torn := s.torn + e.data.length }

/-! ### Journal (R201–R209) -/

/-- A record reference after position p has been taken by another record (R208). -/
def dropRef (p : Fin 32) (r : Option (Fin 32)) : Option (Fin 32) := if r = some p then none else r

/-- Drops the references of the list and of the DRIVING operation to position p (R208). -/
def Sequencer.dropRef (q : Sequencer) (p : Fin 32) : Sequencer :=
  { list := q.list.map (fun e => { e with record := Machine.dropRef p e.record })
    driving := q.driving.map (fun d => { d with record := Machine.dropRef p d.record }) }

/-- Drops the capture references to position p (R208). -/
def Store.dropRef (st : Store) (p : Fin 32) : Store :=
  { st with queue := st.queue.map (fun e => { e with capture := Machine.dropRef p e.capture }) }

/-- Writes a record into position *next* (R201, R203). -/
def Journal.push (j : Journal) (r : Record) : Journal :=
  { j with
    records := j.records.set j.next (some r)
    held := min 32 (j.held + 1)
    next := j.next + 1
    number := j.number + 1 }

/-- Updates the record a reference names, while it is OPEN; no reference, nothing written (R204, R206). -/
def Journal.update (j : Journal) (ref : Option (Fin 32)) (f : Record → Record) : Journal :=
  match ref with
  | none => j
  | some p =>
    match j.records[p] with
    | none => j
    | some r => if r.state = .opened then { j with records := j.records.set p (some (f r)) } else j

/-- Closes the record a reference names (R204). -/
def Journal.close (j : Journal) (ref : Option (Fin 32)) (st : RecState) (outcome : Option FaultCode) :
    Journal :=
  j.update ref (fun r => { r with state := st, outcome := outcome, tClose := some j.timeTag })

/-- Opens a record: it takes position *next*, and every reference to what stood there is dropped. -/
def writeRecord (r : Record) (s : State) : State :=
  { s with
    journal := s.journal.push r
    ops := s.ops.dropRef s.journal.next
    store := s.store.dropRef s.journal.next }

/-- The FAULT record of a code and parameter, as it is written in this event (R209). -/
def faultRecord (code : FaultCode) (p0 p1 p2 p3 : Byte) (s : State) : Record :=
  { number := s.journal.number, subject := .fault code p0 p1 p2 p3, origin := s.start.station,
    state := .closed, outcome := none, counts := Counts.zero, tOpen := s.journal.timeTag,
    tClose := some s.journal.timeTag }

/-- Journals a FAULT (R209). -/
def reportFault (code : FaultCode) (p0 p1 p2 p3 : Byte) (s : State) : State :=
  writeRecord (faultRecord code p0 p1 p2 p3 s) s

/-- The OPEN record of an operation (R26). -/
def operationRecord (body : OpBody) (origin : Station) (s : State) : Record :=
  { number := s.journal.number, subject := body.subject, origin := origin, state := .opened,
    outcome := none, counts := Counts.zero, tOpen := s.journal.timeTag, tClose := none }

/-- The journal filter excludes an operation's kind (R205). -/
def filtered (body : OpBody) (s : State) : Bool := s.params.filter.getLsbD body.kind

/-- Closes a record (R204). -/
def closeRecord (ref : Option (Fin 32)) (st : RecState) (outcome : Option FaultCode) (s : State) : State :=
  { s with journal := s.journal.close ref st outcome }

/-! ### Counts of the DRIVING operation (R38, R39) -/

/-- A 16-bit count raised by 1, stopping at its largest value (R38). -/
def satInc (n : Word) : Word := if n = 0xFFFF#16 then n else n + 1

/-- done +1 (R38). -/
def Counts.addDone (k : Counts) : Counts := { k with done := satInc k.done }
/-- yielded +1 (R38). -/
def Counts.addYielded (k : Counts) : Counts := { k with yielded := satInc k.yielded }
/-- retries +1 (R38). -/
def Counts.addRetry (k : Counts) : Counts := { k with retries := satInc k.retries }
/-- A STUCK channel: into the fault list while it holds fewer than 4, else further-faults +1 (R38). -/
def Counts.addFault (c : Chan) (k : Counts) : Counts :=
  if k.faultList.length < 4 then { k with faultList := k.faultList ++ [c] }
  else { k with further := satInc k.further }

/-- Raises a count of the DRIVING operation, in the Sequencer and in its record (R38, R206). -/
def countDriving (f : Counts → Counts) (s : State) : State :=
  { s with
    ops := { s.ops with driving := s.ops.driving.map (fun d => { d with counts := f d.counts }) }
    journal :=
      match s.ops.driving with
      | none => s.journal
      | some d => s.journal.update d.record (fun r => { r with counts := f d.counts }) }

/-- Closes the DRIVING operation, if there is one, in the given state (R36, R39). -/
def closeDriving (st : RecState) (s : State) : State :=
  { s with
    ops := { s.ops with driving := none }
    journal :=
      match s.ops.driving with
      | none => s.journal
      | some d => s.journal.close d.record st none }

/-- The closing check: with no channel outstanding the DRIVING operation closes CLOSED (R67). -/
def closingCheck (s : State) : State := if anyOutstanding s then s else closeDriving .closed s

/-! ### Channels, speaking set and pending-move queue -/

/-- Changes one channel record. -/
def setChannel (c : Chan) (x : Channel) (s : State) : State :=
  { s with channels := s.channels.set c x }

/-- Appends a move at the tail of the pending-move queue (R50). -/
def appendMove (m : Move) (s : State) : State :=
  { s with drive := { s.drive with queue := s.drive.queue ++ [m] } }

/-- Removes channel c's entry from the pending-move queue (R50). -/
def removeMove (c : Chan) (s : State) : State :=
  { s with drive := { s.drive with queue := s.drive.queue.filter (fun m => decide (m.chan ≠ c)) } }

/-- The relay port at a composed set: an unchanged set starts no shift; a changed one starts a shift, or sets
the further-shift flag while one is in progress (R17–R19). -/
def Relay.compose (r : Relay) (x : ChanSet) : Relay :=
  if x = r.speaking then r
  else
    match r.shift with
    | none => { r with speaking := x, shift := some x, shiftUs := 0 }
    | some _ => { r with speaking := x, further := true }

/-- Recomposes the speaking set (R17). -/
def recompose (s : State) : State := { s with relay := s.relay.compose (composedSet s) }

/-! ### Transmit queue (R168–R172) -/

/-- An entry of the queue is of this frame's class. -/
def sameClass (f e : TxFrame) : Bool := decide (e.cls = f.cls)

/-- The transmit queue after a hand-over by the rule of the frame's class; `none` where the frame has no
place (R169–R171). -/
def coalesce (q : List TxFrame) (f : TxFrame) : Option (List TxFrame) :=
  if q.any (sameClass f) then
    if f = .tuttiResend then some q
    else if f.isFlip && q.any (fun e => sameClass f e && e.isFlip) then
      some (q.filter (fun e => !sameClass f e))
    else some (q.filter (fun e => !sameClass f e) ++ [f])
  else if q.length < Config.txCapacity then some (q ++ [f])
  else none

/-- The controller between frames, or out of one: both lines released, nothing assembled, no answer prepared,
the stretch and in-frame timers stopped and the idle count at 0 (R148, R152, R164). -/
def Link.leaveFrame (l : Link) (line : LineState) : Link :=
  { l with
    line := line
    assembly := none
    objection := false
    hold := false
    veto := false
    stretch := none
    outLck := false
    outLda := false
    bits := []
    half := 0
    idleUs := 0
    inFrame := none }

/-- Changes the Link Controller. -/
def setLink (l : Link) (s : State) : State := { s with link := l }

/-- The payload of an originated frame as its START completes it (R189). -/
def startPayload (s : State) (f : TxFrame) : List Byte :=
  (txMsg s.params.levelRole s.params.shoeRole s.view f).payload

/-- The Link Controller as it drives START with a frame in hand: SENDING, LDA low, the frame's payload completed
(R152, R153, R189). -/
def startedLink (h : Hand) (q : List TxFrame) (s : State) : Link :=
  { s.link.leaveFrame .sending with
    hand := some { h with payload := startPayload s h.frame }
    txq := q
    outLda := true
    inFrame := some 0 }

/-- Drives START with a frame in hand. -/
def driveStart (h : Hand) (q : List TxFrame) (s : State) : State := setLink (startedLink h q s) s

/-- The Link Controller after it has been handed a frame in RUN: started at once where the link has been quiet and
nothing was there to send, else entered by the rule of its class; `none` where it has no place (R149,
R169–R171). -/
def takenLink (f : TxFrame) (s : State) : Option Link :=
  if startsAtOnce s then some (startedLink { frame := f, payload := [], attempts := 0 } [] s)
  else (coalesce s.link.txq f).map (fun q => { s.link with txq := q })

/-- Hands a frame to the Link Controller. Outside RUN it is not entered and nothing is journaled (R172); in
RUN a frame without a place is lost and TX_FULL journaled (R171). -/
def handOver (f : TxFrame) (s : State) : State :=
  if s.view.mode = .run then
    match takenLink f s with
    | some l => setLink l s
    | none => reportFault .txFull (headerByte f.kind s.start.station) 0 0 0 s
  else s

/-- Withdraws the queued TUTTI frame (R170). -/
def withdrawTutti (s : State) : State :=
  { s with link := { s.link with txq := s.link.txq.filter (fun e => decide (e.cls ≠ .tutti)) } }

/-- Withdraws the hold of the frame on the link and releases LCK in the same event (R91, R165), also at a transmitter
of the frame whose own half-bit of the low phase (R150) has not yet ended. DESIGN CHOICE (log 32). -/
def Link.withdrawHold (l : Link) : Link :=
  if l.hold then { l with hold := false, stretch := none, outLck := false } else l

/-! ### Write queue (R79–R81) -/

/-- An entry for this target that is not in flight (R80). -/
def waitsFor (t : Target) (e : WriteEntry) : Bool := decide (e.target = t) && !e.inFlight

/-- The capture record that a write of this target would replace in place (R42, R80). -/
def replacedCapture (q : List WriteEntry) (t : Target) : Option (Fin 32) :=
  (q.find? (waitsFor t)).bind (fun e => e.capture)

/-- The write queue after a write by the rule of R80; `none` where the write has no place. -/
def enterQueue (q : List WriteEntry) (t : Target) (data : List Byte) (capture : Option (Fin 32)) :
    Option (List WriteEntry) :=
  if q.any (waitsFor t) then
    some (q.map (fun e => if waitsFor t e then { e with data := data, capture := capture } else e))
  else if q.length < Config.writeCapacity then
    some (q ++ [{ target := t, data := data, inFlight := false, capture := capture }])
  else none

/-- Enters a write; a capture replaced in place closes SUPERSEDED (R80, R42). `none` where it has no
place. -/
def enterWrite (t : Target) (data : List Byte) (capture : Option (Fin 32)) (s : State) : Option State :=
  match enterQueue s.store.queue t data capture with
  | none => none
  | some q =>
    some (closeRecord (replacedCapture s.store.queue t) .superseded none
      { s with store := { s.store with queue := q } })

/-- Enters each of several writes in order. -/
def enterAll : List (Target × List Byte) → State → Option State
  | [], s => some s
  | (t, d) :: rest, s =>
    match enterWrite t d none s with
    | none => none
    | some s' => enterAll rest s'

/-- New entries that the page ranges of an image write call for (R80). -/
def newEntries (q : List WriteEntry) (ts : List (Target × List Byte)) : Nat :=
  (ts.filter (fun td => !q.any (waitsFor td.1))).length

/-- Enters an image write: all of its page ranges or none (R80). -/
def enterImage (offset : Nat) (data : List Byte) (s : State) : Option State :=
  let ts := imageTargets offset data
  if s.store.queue.length + newEntries s.store.queue ts ≤ Config.writeCapacity then enterAll ts s else none

/-- The lock-byte write of byte n with the copy's value, deferred where it has no place (R81, R88). -/
def writeLockByte (n : Fin 32) (s : State) : State :=
  match enterWrite (.lockByte n) [lockByteOf s.store.lockCopy n] none s with
  | some s' => s'
  | none => { s with store := { s.store with lockMarks := s.store.lockMarks ||| BitVec.twoPow 32 n.val } }

/-- The calibration write with the copy's value, deferred where it has no place (R81, R92). -/
def writeCalibration (s : State) : State :=
  match enterWrite .calibration (calibrationBytes s.store.c0 s.store.c1) none s with
  | some s' => s'
  | none => { s with store := { s.store with calMark := true } }

/-- Some deferred mark is set (R81). -/
def anyMark (s : State) : Bool := s.store.calMark || decide (s.store.lockMarks ≠ 0)

/-- Serves one deferred mark: the calibration mark first, then the lock marks in ascending order (R81). -/
def serveMark (s : State) : State :=
  if s.store.calMark then writeCalibration { s with store := { s.store with calMark := false } }
  else
    match (List.finRange 32).find? (fun n => s.store.lockMarks.getLsbD n.val) with
    | none => s
    | some n =>
      writeLockByte n
        { s with store := { s.store with lockMarks := s.store.lockMarks &&& ~~~ BitVec.twoPow 32 n.val } }

/-- Number of deferred marks set (R95). -/
def markCount (s : State) : Nat :=
  ((List.finRange 32).filter (fun n => s.store.lockMarks.getLsbD n.val)).length + s.store.calMark.toNat

/-- Sets one level's flag in the lock table copy and makes the lock-byte write (R88). -/
def setLock (level : Fin 256) (lock : Bool) (s : State) : State :=
  writeLockByte (Fin.ofNat 32 (level.val / 8))
    { s with store := { s.store with
        lockCopy := if lock then s.store.lockCopy &&& ~~~ BitVec.twoPow 256 level.val
          else s.store.lockCopy ||| BitVec.twoPow 256 level.val } }

/-! ### Fetch path (R85, R86) -/

/-- Data of the newest write-queue entry for a target (R86). -/
def newestData (q : List WriteEntry) (t : Target) : Option (List Byte) :=
  ((q.filter (fun e => decide (e.target = t))).getLast?).map (fun e => e.data)

/-- The bytes a request yields if it is served now: forwarded from the write queue, or read while the memory
is IDLE; `none` while it must wait (R85, R86). -/
def fetchData (req : FetchReq) (s : State) : Option (List Byte) :=
  match req with
  | .recall l k | .slotRead l k =>
    match newestData s.store.queue (.slot l k) with
    | some d => some d
    | none => if s.store.mem = .idle then some (memReadRange s.memory (slotAddress l k) 8) else none
  | .imageRead off len => if s.store.mem = .idle then some (memReadRange s.memory off len) else none

/-- A fetch waits to be served (R85). -/
def fetchWaiting (s : State) : Bool :=
  match s.store.fetch with
  | some f => f.result.isNone
  | none => false

/-- Serves the waiting fetch where it can be served (R85, R86): at its making, or as the memory becomes IDLE. -/
def serveFetch (s : State) : State :=
  match s.store.fetch with
  | some f =>
    match f.result, fetchData f.req s with
    | none, some d => { s with store := { s.store with fetch := some { f with result := some d } } }
    | _, _ => s
  | none => s

/-- Makes a request of the free fetch path; it is served when it is made if it can be (R85). -/
def requestFetch (req : FetchReq) (s : State) : State :=
  serveFetch { s with store := { s.store with fetch := some { req := req, result := none } } }

/-! ### Operation list (R22–R31) -/

/-- The MOVED and LIT channels that satisfy a condition. -/
def drivenSet (s : State) (f : Channel → Bool) : ChanSet :=
  chanSet (fun c => decide (s.channels[c].type ≠ .plain) && f s.channels[c])

/-- The affected set of a slot, from its participation entry (R25, R78). -/
def slotSet (s : State) (slot : Fin 128) : ChanSet :=
  match participationOf s.params.participation[slot] with
  | .none => 0
  | .all => drivenSet s (fun _ => true)
  | .division d => drivenSet s (fun x => decide (x.division = d))

/-- The affected set of an operation at this station (R25), by type and stop number also for stop 1023, of which R182
says that it matches only PLAIN channels. DESIGN CHOICE (log 35). -/
def affectedSet (s : State) : OpBody → ChanSet
  | .recall _ slot => slotSet s slot
  | .capture _ slot => slotSet s slot
  | .cancel .console => drivenSet s (fun _ => true)
  | .cancel (.division d) => drivenSet s (fun x => decide (x.division = d))
  | .toggle stop _ => drivenSet s (fun x => decide (x.stop = stop))
  | .mirror stop _ => drivenSet s (fun x => decide (x.stop = stop))

/-- The operation a message would make, before the station's tables are looked at: none for an ignored
value, for a HANDSET this station sent, and for kinds that make none (R24, R178). -/
def operationOf (mark : Mark) : Msg → Option OpBody
  | .cancel b => (scopeOf b).map OpBody.cancel
  | .recall l k => if k.toNat < 128 then some (.recall l.toFin (Fin.ofNat 128 k.toNat)) else none
  | .capture l k => if k.toNat < 128 then some (.capture l.toFin (Fin.ofNat 128 k.toNat)) else none
  | .handset on stop => match mark with
    | .received => some (.mirror stop on)
    | .transmitted => none
  | .toggle a stop => (actionOf a).map (OpBody.toggle stop)
  | _ => none

/-- The frame would create an operation here: R24 and R25 give it a non-empty affected set (R27). -/
def needsOperation (s : State) (mark : Mark) (m : Msg) : Bool :=
  match operationOf mark m with
  | some body => decide (affectedSet s body ≠ 0)
  | none => false

/-- A CAPTURE operation. -/
def OpBody.isCapture : OpBody → Bool
  | .capture _ _ => true
  | _ => false

/-- A TOGGLE flip. -/
def OpBody.isFlip : OpBody → Bool
  | .toggle _ .flip => true
  | _ => false

/-- An older entry that an operation with affected set `n` removes, where `rest` are the entries between the
two (R28). -/
def prunable (n : ChanSet) (rest : List OpEntry) (e : OpEntry) : Bool :=
  !e.body.isCapture && decide (e.state ≠ .storing) && decide (e.affected &&& ~~~ n = 0)
    && !rest.any (fun x => x.body.isCapture)

/-- The older entries that stay, and those removed (R28). -/
def pruneList (n : ChanSet) : List OpEntry → List OpEntry × List OpEntry
  | [] => ([], [])
  | e :: rest =>
    let kp := pruneList n rest
    if prunable n rest e then (kp.1, e :: kp.2) else (e :: kp.1, kp.2)

/-- Closes the records of removed entries in one state (R29, R207). -/
def closeAll (st : RecState) (es : List OpEntry) (s : State) : State :=
  es.foldl (fun s e => closeRecord e.record st none s) s

/-- Opens the record of an operation unless its kind is filtered, and gives its reference (R26, R205). -/
def openRecord (body : OpBody) (origin : Station) (s : State) : State × Option (Fin 32) :=
  if filtered body s then (s, none)
  else (writeRecord (operationRecord body origin s) s, some s.journal.next)

/-- Appends an operation: its record opens and a drive operation other than a flip prunes (R26, R28). -/
def appendOperation (body : OpBody) (origin : Station) (aff : ChanSet) (s : State) : State :=
  let opened := openRecord body origin s
  let entry : OpEntry :=
    { body := body, origin := origin, affected := aff, state := .waiting, asked := false,
      record := opened.2 }
  let older := opened.1.ops.list
  let kp := if body.isCapture || body.isFlip then (older, []) else pruneList aff older
  closeAll .superseded kp.2
    { opened.1 with ops := { opened.1.ops with list := kp.1 ++ [entry] } }

/-- Takes a delivered frame at the Sequencer: an operation, an OP_DROPPED record at a full list, or nothing
for an empty affected set (R26, R27). -/
def considerFrame (mark : Mark) (header : Byte) (m : Msg) (s : State) : State :=
  match operationOf mark m with
  | none => s
  | some body =>
    if affectedSet s body = 0 then s
    else if s.ops.list.length < Config.opCapacity then
      appendOperation body (headerOrigin header) (affectedSet s body) s
    else reportFault .opDropped header 0 0 0 s

/-- The head leaves the operation list, which withdraws a hold (R22, R91). -/
def leaveList (s : State) : State :=
  { s with ops := { s.ops with list := s.ops.list.tail }, link := s.link.withdrawHold }

/-- Changes the head entry. -/
def setHead (e : OpEntry) (s : State) : State :=
  { s with ops := { s.ops with list := e :: s.ops.list.tail } }

/-- A RECALL at the head asks for its slot: its fetch is issued and it becomes FETCHING, or it waits for the
fetch in flight (R31; log 17). -/
def askFetch (e : OpEntry) (level : Fin 256) (slot : Fin 128) (s : State) : State :=
  match s.store.fetch with
  | none => requestFetch (.recall level slot) (setHead { e with state := .fetching, asked := false } s)
  | some _ => setHead { e with asked := true } s

/-- Issues the fetch of a RECALL that waits at the head for the fetch path (R31, R87). -/
def issueWaitingRecall (s : State) : State :=
  match s.ops.list with
  | [] => s
  | e :: _ =>
    match e.body with
    | .recall l k => if e.asked then askFetch e l k s else s
    | _ => s

/-! ### The plan (R34–R37) -/

/-- Drive state of a MOVED channel after a plan gives it target t (R34). -/
def plannedDrive (x : Channel) (t : Bool) : Drive :=
  match x.drive with
  | .idle => if x.contact = t then .idle else .queued
  | .queued => if x.contact = t then .idle else .queued
  | .held _ _ => if x.contact = t then .idle else .held t .first
  | d => d

/-- The pending-move queue after a plan gives MOVED channel c target t (R34). -/
def plannedQueue (c : Chan) (x : Channel) (t : Bool) (q : List Move) : List Move :=
  match x.drive with
  | .idle => if x.contact = t then q else q ++ [⟨c, t, .first⟩]
  | .queued =>
    if x.contact = t then q.filter (fun m => decide (m.chan ≠ c))
    else q.map (fun m => if m.chan = c then ⟨c, t, .first⟩ else m)
  | _ => q

/-- A channel record after a plan gives it target t (R34); PLAIN channels are outside every affected set. -/
def plannedChannel (x : Channel) (t : Bool) : Channel :=
  match x.type with
  | .plain => x
  | .lit => { x with fault := false, registered := t }
  | .moved => { x with fault := false, registered := t, drive := plannedDrive x t }

/-- Treats one channel of the affected set (R34). -/
def planChannel (c : Chan) (t : Bool) (s : State) : State :=
  { s with
    channels := s.channels.set c (plannedChannel s.channels[c] t)
    drive := { s.drive with
      queue := if s.channels[c].type = .moved then plannedQueue c s.channels[c] t s.drive.queue
        else s.drive.queue } }

/-- Treats the channels of the affected set one after another, in ascending order (R34, R50). -/
def planAll (aff : ChanSet) (t : Chan → Bool) (cs : List Chan) (s : State) : State :=
  cs.foldl (fun s c => if aff.has c then planChannel c (t c) s else s) s

/-- Planned count: outstanding channels of the affected set (R37). -/
def plannedCount (aff : ChanSet) (s : State) : Nat :=
  countChans (fun c => s.channels[c].drive.outstanding && aff.has c)

/-- Carried count: outstanding channels outside the affected set (R36). -/
def carriedCount (aff : ChanSet) (s : State) : Nat :=
  countChans (fun c => s.channels[c].drive.outstanding && !aff.has c)

/-- The new operation after its plan: DRIVING with its counts while a channel is outstanding, else closed
CLOSED in the same event (R36). -/
def becomeDriving (e : OpEntry) (s : State) : State :=
  let k : Counts :=
    { Counts.zero with
      planned := BitVec.ofNat 16 (plannedCount e.affected s)
      carried := BitVec.ofNat 16 (carriedCount e.affected s) }
  if anyOutstanding s then
    { s with
      ops := { s.ops with
        driving := some { body := e.body, origin := e.origin, counts := k, record := e.record } }
      journal := s.journal.update e.record (fun r => { r with counts := k }) }
  else closeRecord e.record .closed none s

/-- The plan of the head entry `e` with targets `t`: the channels are treated, the speaking set is recomposed
once, the entry leaves the list, the operation that was DRIVING closes SUPERSEDED and the new one becomes
DRIVING or closes (R34–R36). -/
def plan (e : OpEntry) (t : Chan → Bool) (s : State) : State :=
  becomeDriving e (closeDriving .superseded (leaveList (recompose (planAll e.affected t (List.finRange 48) s))))

/-- Targets of an operation planned without a fetch (R33). -/
def targetOf (s : State) : OpBody → Chan → Bool
  | .toggle _ .on, _ => true
  | .toggle _ .off, _ => false
  | .toggle _ .flip, c => !s.channels[c].registered
  | .mirror _ on, _ => on
  | _, _ => false

/-! ### Capture (R40, R41) -/

/-- The pattern a capture snapshots: registered states of its affected set (R40, R43). -/
def snapshot (aff : ChanSet) (s : State) : ChanSet :=
  chanSet (fun c => aff.has c && s.channels[c].registered)

/-- Takes up a CAPTURE at the head: its record enters the write queue and it leaves the list, or it becomes
STORING (R40, R41). -/
def takeCapture (e : OpEntry) (level : Fin 256) (slot : Fin 128) (s : State) : State :=
  match enterWrite (.slot level slot) (writtenRecord (snapshot e.affected s)) e.record s with
  | some s' => leaveList s'
  | none => setHead { e with state := .storing } s

/-! ### Replies of the Service Port (R229) -/

/-- Status byte of a reply (R229). -/
inductive Status where
  | ok | busy | badcmd | notRole
  deriving DecidableEq, Repr

/-- Value of a status (R229). -/
def Status.byte : Status → Byte
  | .ok => 0
  | .busy => 1
  | .badcmd => 2
  | .notRole => 3

/-- The bytes of a reply: status, data, sum (R229). -/
def replyBytes (st : Status) (data : List Byte) : List Byte :=
  let body := st.byte :: data
  body ++ [sumByte body]

/-- Begins a reply: the port becomes REPLYING (R229). -/
def beginReply (st : Status) (data : List Byte) (s : State) : State :=
  { s with port := { s.port with state := .replying, reply := replyBytes st data, replyUs := 0 } }

end Sys2Proof.Machine
end

