-- ==== Sys2Proof/Machine/Crescendo.lean ====
section
/-! DEFINITION. The shoe half of the Crescendo Unit and the meanings of its commands: SAMPLE_EVENT and
INTERVAL_TIMER_EXPIRY. The receiving half stands in Flags.lean (crescAdded) and Frames.lean. -/

namespace Sys2Proof.Machine

/-- The position of a filtered value in permille (R102). -/
def position (c0 c1 f : Nat) : Nat :=
  if c0 < c1 then
    if f ≤ c0 then 0 else if c1 ≤ f then 1000 else (f - c0) * 1000 / (c1 - c0)
  else
    if c0 ≤ f then 0 else if f ≤ c1 then 1000 else (c0 - f) * 1000 / (c0 - c1)

/-- The stage candidate of a position (R103). -/
def candidate (s q : Nat) : Nat := min (s - 1) (q * s / 1000)

/-- The held stage after a new position (R104). -/
def nextStage (s h held p : Nat) : Nat :=
  if p = 0 then 0
  else if p = 1000 then s - 1
  else
    let up := candidate s (p - h)
    let down := candidate s (min 1000 (p + h))
    if held < up then up else if down < held then down else held

/-- The sample ring after a sample: the last four, oldest first (R97). -/
def pushSample (ring : List (Fin 1024)) (r : Fin 1024) : List (Fin 1024) :=
  if ring.length < 4 then ring ++ [r] else ring.drop 1 ++ [r]

/-- The filtered value of a ring (R97). -/
def filterRing (ring : List (Fin 1024)) : Option (Fin 1024) :=
  if ring.length = 4 then some (Fin.ofNat 1024 ((ring.map (fun r => r.val)).sum / 4)) else none

/-- The held pair (program, stage). -/
def heldPair (s : State) : Fin 4 × Fin 60 := (s.cresc.program, s.cresc.stage)

/-- Hands over a STAGE carrying the held pair; it becomes the last sent pair and the interval timer starts
from 0 (R107–R110). -/
def sendStage (s : State) : State :=
  handOver (.stage s.cresc.program s.cresc.stage)
    { s with cresc := { s.cresc with lastSent := heldPair s, interval := some 0 } }

/-- The origination check, in RUN (R107). -/
def originationCheck (s : State) : State :=
  if s.view.mode = .run ∧ heldPair s ≠ s.cresc.lastSent ∧ s.cresc.interval = none then sendStage s else s

/-- The held stage takes up a new filtered value while the calibration is GOOD (R104, R105). -/
def stageUpdate (f : Fin 1024) (s : State) : State :=
  if s.cresc.cal = .good then
    { s with cresc := { s.cresc with
        stage := Fin.ofNat 60 (nextStage s.params.s s.params.h s.cresc.stage.val
          (position s.store.c0.val s.store.c1.val f.val)) } }
  else s

/-- The shoe is sampled: at a SHOE-role station, from the load event on, in every mode but SAFE (R96). -/
def shoeSampled (s : State) : Bool :=
  sampling s && s.params.shoeRole && decide (s.view.mode ≠ .safe)

/-- A conversion completes (R96, R97): the sample enters the ring; a new f is taken up by the stage
computation, and in RUN the origination check is made. -/
def takeSample (r : Fin 1024) (s : State) : State :=
  let ring := pushSample s.cresc.ring r
  let s1 := { s with cresc := { s.cresc with ring := ring, filtered := filterRing ring } }
  match filterRing ring with
  | none => s1
  | some f => if s.cresc.cal = .good then originationCheck (stageUpdate f s1) else s1

/-- SAMPLE_EVENT (R96). -/
def execSampleEvent (r : Fin 1024) (s : State) : Result :=
  .next (if shoeSampled s then takeSample r s else s)

/-- The STAGE interval ends (R108). -/
def endInterval (s : State) : State :=
  if s.view.mode = .run ∧ heldPair s ≠ s.cresc.lastSent then sendStage s
  else { s with cresc := { s.cresc with interval := none } }

/-- INTERVAL_TIMER_EXPIRY (R108). -/
def execIntervalTimerExpiry (s : State) : Result :=
  .next (if s.cresc.interval.isSome then endInterval s else s)

/-! ### Requests of the Piston Unit -/

/-- A program selection (R106): taken while the calibration is GOOD. -/
def selectProgram (k : Fin 4) (s : State) : State :=
  if s.cresc.cal = .good then originationCheck { s with cresc := { s.cresc with program := k } } else s

/-- An accepted calibration (R100): the copy takes the pair, its write is made, the state is GOOD and CRESC
stops flashing (R236). -/
def acceptCalibration (c0 c1 : Fin 1024) (s : State) : State :=
  writeCalibration
    { s with
      store := { s.store with c0 := c0, c1 := c1 }
      cresc := { s.cresc with procedure := none, cal := .good }
      flashes := { s.flashes with cresc := none } }

/-- The SHOE_FAULT record of a pair (R210). -/
def reportShoeFault (c0 c1 : Fin 1024) (s : State) : State :=
  reportFault .shoeFault (byteOf (c0.val / 256)) (byteOf c0.val) (byteOf (c1.val / 256)) (byteOf c1.val) s

/-- A calibration press (R99, R100); without an f it is not taken. -/
def calibrationPress (s : State) : State :=
  match s.cresc.filtered, s.cresc.procedure with
  | none, _ => s
  | some f, none => { s with cresc := { s.cresc with procedure := some f } }
  | some f, some c =>
    if Config.goodSpan ≤ calSpan c f then acceptCalibration c f s
    else reportShoeFault c f { s with cresc := { s.cresc with procedure := none } }

end Sys2Proof.Machine
end

