-- ==== Sys2Proof/Machine/Drive.lean ====
section
/-! DEFINITION. Meanings of the Drive Scheduler's commands: the supply events, PULSE_START, PULSE_END,
VERIFY and RESTORE. -/

namespace Sys2Proof.Machine

/-- Sets the supply state and the restore timer. -/
def setSupply (x : Supply) (timer : Option Nat) (s : State) : State :=
  { s with drive := { s.drive with supply := x, restore := timer } }

/-- SUPPLY_FIRST_SAMPLE (R62): the first sample after a reset, from the load event on. -/
def execSupplyFirstSample (high : Bool) (s : State) : Result :=
  .next
    (if sampling s && decide (s.drive.supply = .unsampled) then
      if high then setSupply .present none s
      else reportFault .supplyLost 0 0 0 0 (setSupply .lost none s)
    else s)

/-- Drive state of a channel at a supply loss: an ENERGIZED channel is HELD toward its registered state, with
the pulse's attempt where that is the pulse's direction and attempt 1 otherwise (R63). -/
def heldDrive (x : Channel) : Drive :=
  match x.drive with
  | .energized dir a _ _ => .held x.registered (if x.registered = dir then a else .first)
  | d => d

/-- Releases every energized coil; those channels become HELD (R63). -/
def holdMoves (s : State) : State :=
  { s with channels := Vector.ofFn (fun c => { s.channels[c] with drive := heldDrive s.channels[c] }) }

/-- SUPPLY_LOSS (R63): a low sample while PRESENT. -/
def execSupplyLoss (s : State) : Result :=
  .next
    (if s.drive.supply = .present then
      reportFault .supplyLost (byteOf (energizedCount s)) 0 0 0 (setSupply .lost none (holdMoves s))
    else s)

/-- SUPPLY_WAIT_START (R62): a high sample while LOST. -/
def execSupplyWaitStart (s : State) : Result :=
  .next (if s.drive.supply = .lost then setSupply .waiting (some 0) s else s)

/-- SUPPLY_WAIT_ABANDON (R62): a low sample while WAITING. -/
def execSupplyWaitAbandon (s : State) : Result :=
  .next (if s.drive.supply = .waiting then setSupply .lost none s else s)

/-- A HELD channel whose contact already equals its registered state: it takes a restore verify (R66). -/
def restoreVerified (x : Channel) : Bool := x.drive.isHeld && decide (x.contact = x.registered)

/-- The pending-move entry of a HELD channel at the restore (R66). -/
def heldMove (s : State) (c : Chan) : Option Move :=
  match s.channels[c].drive with
  | .held dir a => if restoreVerified s.channels[c] then none else some ⟨c, dir, a⟩
  | _ => none

/-- The held moves that re-enter the queue, in ascending channel order (R66). -/
def reentered (s : State) : List Move := (List.finRange 48).filterMap (heldMove s)

/-- A channel record after the restore (R66). -/
def restoredChannel (x : Channel) : Channel :=
  if restoreVerified x then { x with drive := .idle, fault := false }
  else if x.drive.isHeld then { x with drive := .queued }
  else x

/-- Number of restore verifies (R66). -/
def restoreVerifies (s : State) : Nat := countChans (fun c => restoreVerified s.channels[c])

/-- done rises by 1 for each of n verifies (R38, R66). -/
def countDone : Nat → State → State
  | 0, s => s
  | n + 1, s => countDone n (countDriving Counts.addDone s)

/-- The restore (R66): restore verifies, the other held moves before the head, supply PRESENT, the
SUPPLY_RESTORED record, the closing check. -/
def restoreSupply (s : State) : State :=
  let s1 :=
    { s with
      channels := Vector.ofFn (fun c => restoredChannel s.channels[c])
      drive := { queue := reentered s ++ s.drive.queue, supply := .present, restore := none } }
  closingCheck
    (reportFault .supplyRestored (byteOf (reentered s).length) 0 0 0 (countDone (restoreVerifies s) s1))

/-- RESTORE (R66): the restore timer reaches 100 ms while WAITING. -/
def execRestore (s : State) : Result :=
  .next (if s.drive.supply = .waiting then restoreSupply s else s)

/-- The start conditions (R52). -/
def canStartPulse (s : State) : Bool :=
  decide (s.drive.queue ≠ []) && decide (energizedCount s < s.params.p)
    && decide (s.drive.supply = .present)

/-- Takes the head move and energizes its coil (R52). -/
def startPulse (m : Move) (s : State) : State :=
  setChannel m.chan { s.channels[m.chan] with drive := .energized m.dir m.attempt 0 none }
    { s with drive := { s.drive with queue := s.drive.queue.tail } }

/-- PULSE_START (R52). -/
def execPulseStart (s : State) : Result :=
  .next
    (match s.drive.queue with
    | [] => s
    | m :: _ => if canStartPulse s then startPulse m s else s)

/-- PULSE_END (R55): the coil is released and the channel starts settling. -/
def execPulseEnd (c : Chan) (s : State) : Result :=
  .next
    (match s.channels[c].drive with
    | .energized dir a _ _ => setChannel c { s.channels[c] with drive := .settling dir a 0 } s
    | _ => s)

/-- A verify that matches (R57). -/
def verifyMatch (c : Chan) (s : State) : State :=
  closingCheck
    (countDriving Counts.addDone (setChannel c { s.channels[c] with drive := .idle, fault := false } s))

/-- A failed move on attempt 1: retried at the tail with attempt 2 (R58). -/
def verifyRetry (c : Chan) (dir : Bool) (s : State) : State :=
  countDriving Counts.addRetry
    (appendMove ⟨c, dir, .second⟩ (setChannel c { s.channels[c] with drive := .queued } s))

/-- A changed target: a fresh move toward the registered state (R59). -/
def verifyFresh (c : Chan) (s : State) : State :=
  appendMove ⟨c, s.channels[c].registered, .first⟩ (setChannel c { s.channels[c] with drive := .queued } s)

/-- The STUCK verdict (R60). -/
def stuckVerdict (c : Chan) (s : State) : State :=
  let x := s.channels[c]
  closingCheck
    (reportFault .stuck (byteOf c.val) 0 0 0
      (countDriving (Counts.addFault c)
        (recompose (setChannel c { x with drive := .idle, registered := x.contact, fault := true } s))))

/-- The verify of a settling channel (R57). -/
def verifyMove (c : Chan) (dir : Bool) (a : Attempt) (s : State) : State :=
  let x := s.channels[c]
  if x.contact = x.registered then verifyMatch c s
  else if x.registered = dir then
    match a with
    | .first => verifyRetry c dir s
    | .second => stuckVerdict c s
  else verifyFresh c s

/-- VERIFY (R57). -/
def execVerify (c : Chan) (s : State) : Result :=
  .next
    (match s.channels[c].drive with
    | .settling dir a _ => verifyMove c dir a s
    | _ => s)

end Sys2Proof.Machine
end

