-- ==== Sys2Proof/Machine/LinkControl.lean ====
section
/-! DEFINITION. Meanings of the Link Controller's commands that deliver no frame: synchronisation, START,
arbitration, the frame whole at its last check bit, and the ways a frame ends undelivered. -/

namespace Sys2Proof.Machine

/-- Header of the frame in hand (R128, R154). -/
def handHeader (s : State) (h : Hand) : Byte := headerByte h.frame.kind s.start.station

/-- SYNCHRONISE (R148): SEEKING to IDLE, the idle count from 0. LCK has been high, so a stall taken before is over
(R167). -/
def execSynchronise (s : State) : Result :=
  .next
    (if s.link.line = .seeking then setLink { s.link.leaveFrame .idle with stalled := false } s else s)

/-- DISTURBANCE (R149): IDLE to SEEKING. -/
def execDisturbance (s : State) : Result :=
  .next (if s.link.line = .idle then setLink (s.link.leaveFrame .seeking) s else s)

/-- START_RECEIVING (R149): another station's START in IDLE; the receive assembly begins empty. -/
def execStartReceiving (s : State) : Result :=
  .next
    (if s.link.line = .idle then
      setLink { s.link.leaveFrame .receiving with inFrame := some 0 } s
    else s)

/-- A station in RUN and IDLE with a frame in hand or queued (R153). -/
def canStartFrame (s : State) : Bool :=
  decide (s.view.mode = .run) && decide (s.link.line = .idle)
    && (s.link.hand.isSome || decide (s.link.txq ≠ []))

/-- FRAME_START (R153; log 15): the frame in hand, or the head of the queue taken into hand with attempt count
0. A frame handed over to a quiet station with nothing to send has started in that event (`handOver`). -/
def execFrameStart (s : State) : Result :=
  .next
    (if canStartFrame s then
      match s.link.hand, s.link.txq with
      | some h, q => driveStart h q s
      | none, f :: rest => driveStart { frame := f, payload := [], attempts := 0 } rest s
      | none, [] => s
    else s)

/-- ARBITRATION_LOST (R155): the transmitter releases LDA, leaves the clock and becomes RECEIVING; its frame
stays in hand with its attempt count. A frame already whole can lose no more. -/
def execArbitrationLost (s : State) : Result :=
  .next
    (if s.link.line = .sending ∧ s.link.assembly = none then
      setLink { s.link with line := .receiving, outLck := false, outLda := false, half := 0 } s
    else s)

/-- A CAPTURE into a level that this station's copy locks (R89): the slot byte is not looked at. -/
def capturesLocked (s : State) (m : Msg) : Bool :=
  match m with
  | .capture l _ => locked s.store.lockCopy l.toFin
  | _ => false

/-- The veto decision for a message with a good check: a LEVEL-role station in RUN (R89). -/
def vetoDecision (s : State) (m : Msg) : Bool :=
  decide (s.view.mode = .run) && s.params.levelRole && capturesLocked s m

/-- The hold decision for a message with a good check: in RUN, the frame needs an operation and the list is
full (R91). An ignored value needs none, so it never holds, though R178 says that such a frame could draw a stretch.
DESIGN CHOICE (log 34). -/
def holdDecision (s : State) (mark : Mark) (m : Msg) : Bool :=
  decide (s.view.mode = .run) && needsOperation s mark m
    && decide (s.ops.list.length = Config.opCapacity)

/-- The frame is whole, with its answers for the slots (R158–R160, R165). `ok` is the check as this station
takes it; a hold starts the stretch timer. -/
def frameWhole (f : WireFrame) (mark : Mark) (ok : Bool) (s : State) : State :=
  let hold := ok && (match frameMsg f with
    | some m => holdDecision s mark m
    | none => false)
  let veto := ok && (match frameMsg f with
    | some m => vetoDecision s m
    | none => false)
  setLink
    { s.link with
      assembly := some f
      objection := decide (s.view.mode = .run) && !ok && decide (headerKind f.header ≤ 9)
      hold := hold
      veto := veto
      stretch := if hold then some 0 else none } s

/-- The frame this station sends, as it stands on the line (R154, R156). -/
def sentFrame (s : State) (h : Hand) : WireFrame := wireFrame h.frame.kind s.start.station h.payload

/-- FRAME_RECEIVED (R158): a receiver judges the sampled frame's check; a transmitter that has not lost takes
its own frame with its check as good and prepares no objection (R156; log 12). The veto is prepared here and
taken again at its slot (log 13). -/
def execFrameReceived (f : WireFrame) (s : State) : Result :=
  .next
    (if s.link.assembly = none then
      match s.link.line, s.link.hand with
      | .receiving, _ => if frameWholeLength f then frameWhole f .received (frameGood f) s else s
      | .sending, some h => frameWhole (sentFrame s h) .transmitted true s
      | _, _ => s
    else s)

/-- STRETCH_EXPIRY (R165): LCK is released and the hold stays withdrawn for this frame. -/
def execStretchExpiry (s : State) : Result :=
  .next (if s.link.stretch.isSome then setLink s.link.withdrawHold s else s)

/-- A counted attempt of the frame in hand (R162): below 3 it stays in hand; at the third it is dropped,
LINK_FAULT is journaled and the LINK FAULT timer starts from 0. -/
def countAttempt (cause : AttemptCause) (s : State) : State :=
  match s.link.hand with
  | none => s
  | some h =>
    if h.attempts + 1 < Config.maxAttempts then
      setLink { s.link with hand := some { h with attempts := h.attempts + 1 } } s
    else
      reportFault .linkFault (handHeader s h) (byteOf cause.value) 0 0
        (setLink { s.link with hand := none, linkFault := some 0 } s)

/-- An objected frame at STOP: the transmitter counts an attempt (R161, R162). -/
def endObjected (s : State) : State :=
  if s.link.line = .sending then countAttempt .objection (setLink (s.link.leaveFrame .idle) s)
  else setLink (s.link.leaveFrame .idle) s

/-- A vetoed CAPTURE at STOP: at its transmitter CAPTURE_VETOED is journaled and the frame leaves hand
(R161, R162). -/
def endVetoed (level slot : Byte) (s : State) : State :=
  if s.link.line = .sending then
    reportFault .captureVetoed level slot 0 0
      (setLink { s.link.leaveFrame .idle with hand := none } s)
  else setLink (s.link.leaveFrame .idle) s

/-- The frame whose STOP this station sees: RECEIVING or SENDING, and whole (R161). -/
def frameAtStop (s : State) : Option WireFrame :=
  match s.link.line with
  | .receiving => s.link.assembly
  | .sending => s.link.assembly
  | _ => none

/-- FRAME_NOT_ACCEPTED (R162): only a CAPTURE can be vetoed, and only where this station does not object. -/
def execFrameNotAccepted (cause : StopCause) (s : State) : Result :=
  .next
    (match frameAtStop s with
    | none => s
    | some f =>
      match cause with
      | .objected => endObjected s
      | .vetoed =>
        if headerKind f.header = 2 ∧ s.link.objection = false then
          endVetoed (f.payload.getD 0 0) (f.payload.getD 1 0) s
        else s)

/-- A frame that this station does not deliver although nobody stopped it: kind 10–15, or a bad check where
this station does not object (R159, R161). -/
def undelivered (s : State) (f : WireFrame) : Bool :=
  decide (s.link.line = .receiving) && !s.link.objection
    && (decide (9 < headerKind f.header) || !(frameGood f))

/-- STOP_WITHOUT_DELIVERY (R161): the frame is discarded and the station passes to IDLE. -/
def execStopWithoutDelivery (s : State) : Result :=
  .next
    (match s.link.assembly with
    | none => s
    | some f => if undelivered s f then setLink (s.link.leaveFrame .idle) s else s)

/-- LINK_FAULT_TIMER_EXPIRY (R162): the running timer stops and the indicator goes dark. -/
def execLinkFaultTimerExpiry (s : State) : Result :=
  .next (if s.link.linkFault.isSome then setLink { s.link with linkFault := none } s else s)

/-- BROKEN_FRAME (R164): the lines are released and the station seeks; a transmitter counts an attempt. -/
def execBrokenFrame (s : State) : Result :=
  .next
    (match s.link.line with
    | .receiving => setLink (s.link.leaveFrame .seeking) s
    | .sending => countAttempt .broken (setLink (s.link.leaveFrame .seeking) s)
    | _ => s)

/-- The header byte a LINK_STALL record shows, if the abandoned frame's was complete (R210): the frame's own
once it is whole, the sampled one given with the stall before that (log 31). -/
def stallHeader (header : Option Byte) (s : State) : Option Byte :=
  match s.link.line with
  | .receiving => (s.link.assembly.map (fun f => f.header)).or header
  | .sending => (s.link.assembly.map (fun f => f.header)).or header
  | _ => none

/-- The LINK_STALL record (R210). -/
def reportStall (line : LineState) (header : Option Byte) (s : State) : State :=
  reportFault .linkStall (byteOf line.stallValue) (header.getD 0) (boolByte header.isSome) 0 s

/-- A stall (R167): the frame is abandoned, at a transmitter as a counted attempt; the lines are released, the
station seeks, and LINK_STALL is journaled. -/
def takeStall (header : Option Byte) (s : State) : State :=
  let s1 := setLink { s.link.leaveFrame .seeking with stall := 0, stalled := true } s
  reportStall s.link.line (stallHeader header s)
    (if s.link.line = .sending then countAttempt .stall s1 else s1)

/-- LINK_STALL (R167): the stall timer is stopped in OFF, and after a stall until LCK has been high. -/
def execLinkStall (header : Option Byte) (s : State) : Result :=
  .next (if s.link.line = .off ∨ s.link.stalled then s else takeStall header s)

end Sys2Proof.Machine
end

