-- ==== Sys2Proof/Machine/Pistons.lean ====
section
/-! DEFINITION. Meanings of the Piston Unit's commands: PISTON_PRESS, PISTON_RELEASE and
SEQUENCE_END_TIMER_EXPIRY, with the act of every piston function. -/

namespace Sys2Proof.Machine

/-- A step of the sequencer: a place to recall, nothing, or the end of the sequence (R130, R131). -/
inductive SeqStep where
  | place (level : Fin 256) (slot : Fin 128)
  | nothing
  | atEnd
  deriving DecidableEq, Repr

/-- The step of NEXT (R130). -/
def nextStep (v : View) (g : Nat) : SeqStep :=
  match v.lastRecall with
  | none => .place v.level 0
  | some (l, n) =>
    if n.val + 1 < g then .place l (Fin.ofNat 128 (n.val + 1))
    else if n.val + 1 = g then
      if l.val < 255 then .place (Fin.ofNat 256 (l.val + 1)) 0 else .atEnd
    else .place l 0

/-- The step of PREV (R131). -/
def prevStep (v : View) (g : Nat) : SeqStep :=
  match v.lastRecall with
  | none => .nothing
  | some (l, n) =>
    if g ≤ n.val then .place l (Fin.ofNat 128 (g - 1))
    else if 0 < n.val then .place l (Fin.ofNat 128 (n.val - 1))
    else if 0 < l.val then .place (Fin.ofNat 256 (l.val - 1)) (Fin.ofNat 128 (g - 1))
    else .atEnd

/-- The end of the sequence (R132): the record, and the sequence-end timer with its flashing from 0. -/
def sequenceEnd (function : Byte) (s : State) : State :=
  let s1 :=
    { s with
      pistons := { s.pistons with seqEnd := some 0 }
      flashes := { s.flashes with seqEnd := some { lit := true, ms := 0 } } }
  match s.view.lastRecall with
  | none => s1
  | some (l, n) => reportFault .sequenceEnd function (byteOf l.val) (byteOf n.val) 0 s1

/-- Acts on a step (R130–R132). -/
def actStep (function : Byte) (st : SeqStep) (s : State) : State :=
  match st with
  | .place l n => handOver (.recall l n) s
  | .nothing => s
  | .atEnd => sequenceEnd function s

/-- RECALL n (R129): a CAPTURE while the setter is armed, a RECALL otherwise. -/
def pressRecall (slot : Fin 128) (s : State) : State :=
  if s.view.setter then handOver (.capture s.view.level slot) s
  else handOver (.recall s.view.level slot) s

/-- The value a TUTTI frame of this station carries; a re-send counts as carrying the view's (R136;
log 23). -/
def tuttiValue (v : View) : TxFrame → Option Bool
  | .tutti on => some on
  | .tuttiResend => some v.tutti
  | _ => none

/-- The value of the queued TUTTI frame, if there is one (R136). -/
def queuedTutti (s : State) : Option Bool := s.link.txq.findSome? (tuttiValue s.view)

/-- The value before the queued TUTTI frame: that of the TUTTI frame being sent, else the view's (R136). -/
def tuttiBefore (s : State) : Bool :=
  (s.link.hand.bind (fun h => tuttiValue s.view h.frame)).getD s.view.tutti

/-- TUTTI (R136). -/
def pressTutti (s : State) : State :=
  match queuedTutti s with
  | none => handOver (.tutti (!tuttiBefore s)) s
  | some v => if tuttiBefore s = !v then withdrawTutti s else handOver (.tutti (!v)) s

/-- LEVEL UP (R137). -/
def pressLevelUp (s : State) : State :=
  if s.view.level.val < 255 then handOver (.level (Fin.ofNat 256 (s.view.level.val + 1))) s else s

/-- LEVEL DOWN (R137). -/
def pressLevelDown (s : State) : State :=
  if 0 < s.view.level.val then handOver (.level (Fin.ofNat 256 (s.view.level.val - 1))) s else s

/-- LOCK (R138, R88): at a LEVEL-role station with the setter armed the view level's flag is inverted. -/
def pressLock (s : State) : State :=
  if s.params.levelRole && s.view.setter then
    setLock s.view.level (!locked s.store.lockCopy s.view.level) s
  else s

/-- PROGRAM k (R139): at a SHOE-role station, a program selection. -/
def pressProgram (k : Fin 4) (s : State) : State := if s.params.shoeRole then selectProgram k s else s

/-- CALIBRATE (R140): at a SHOE-role station with the setter armed, a calibration press. -/
def pressCalibrate (s : State) : State :=
  if s.params.shoeRole && s.view.setter then calibrationPress s else s

/-- The act of a function on a press in RUN (R126). -/
def pressAct (fn : PistonFn) (s : State) : State :=
  match fn with
  | .nothing => s
  | .recall slot => pressRecall slot s
  | .next => actStep 0 (nextStep s.view s.params.g) s
  | .prev => actStep 1 (prevStep s.view s.params.g) s
  | .set => handOver (.setter true) s
  | .cancelAll => handOver (.cancel .console) s
  | .cancelDiv d => handOver (.cancel (.division d)) s
  | .toggle stop => handOver (.toggle stop .flip) s
  | .tutti => pressTutti s
  | .levelUp => pressLevelUp s
  | .levelDown => pressLevelDown s
  | .lock => pressLock s
  | .program k => pressProgram k s
  | .calibrate => pressCalibrate s

/-- Piston inputs are sampled: from the load event on, and not at a station that starts or runs in SAFE
(R124). -/
def pistonsSampled (s : State) : Bool :=
  sampling s && !s.start.safe && decide (s.view.mode ≠ .safe)

/-- The debounced state of an input changes and its count returns to 0 (R123). -/
def setPiston (i : Fin 32) (pressed : Bool) (s : State) : State :=
  { s with pistons := { s.pistons with
      inputs := s.pistons.inputs.set i { pressed := pressed, count := 0 } } }

/-- A press, by the station mode (R125, R142). A piston held through start-up whose debounced change falls only after the
completion, the piston Tdb being above the contact Tdb, is pressed in RUN and acts (R125, R143), though R124 says of a
piston held through start-up that it acts on nothing. DESIGN CHOICE (log 36). -/
def takePress (i : Fin 32) (s : State) : State :=
  match s.view.mode with
  | .run => pressAct s.params.pistonFns[i] s
  | .listen => reportFault .duplicateId 1 (byteOf i.val) 0 0 s
  | _ => s

/-- PISTON_PRESS (R125): a debounced change of input i to pressed. -/
def execPistonPress (i : Fin 32) (s : State) : Result :=
  .next
    (if pistonsSampled s && !s.pistons.inputs[i].pressed then takePress i (setPiston i true s) else s)

/-- A release, by the station mode: a SET function acts in RUN, nothing else does (R125, R133). -/
def takeRelease (i : Fin 32) (s : State) : State :=
  if s.view.mode = .run ∧ s.params.pistonFns[i] = .set then handOver (.setter false) s else s

/-- PISTON_RELEASE (R125): a debounced change of input i to released. -/
def execPistonRelease (i : Fin 32) (s : State) : Result :=
  .next
    (if pistonsSampled s && s.pistons.inputs[i].pressed then takeRelease i (setPiston i false s) else s)

/-- SEQUENCE_END_TIMER_EXPIRY (R132): the running timer stops and the indicator goes dark. -/
def execSequenceEndTimerExpiry (s : State) : Result :=
  .next
    (if s.pistons.seqEnd.isSome then
      { s with
        pistons := { s.pistons with seqEnd := none }
        flashes := { s.flashes with seqEnd := none } }
    else s)

end Sys2Proof.Machine
end

