-- ==== Sys2Proof/Machine/Sequence.lean ====
section
/-! DEFINITION. Meanings of the Operation Sequencer's commands: TAKE_UP_HEAD and STORING_CAPTURE_RETAKE. -/

namespace Sys2Proof.Machine

/-- The head is there to be taken up: WAITING, and not a RECALL that has asked for its fetch (R30, R31). -/
def headWaits (e : OpEntry) : Bool := decide (e.state = .waiting) && !e.asked

/-- Takes up a head entry, by its kind (R30). -/
def takeUp (e : OpEntry) (s : State) : State :=
  match e.body with
  | .recall l k => askFetch e l k s
  | .capture l k => takeCapture e l k s
  | b => plan e (targetOf s b) s

/-- TAKE_UP_HEAD (R30). -/
def execTakeUpHead (s : State) : Result :=
  .next
    (match s.ops.list with
    | [] => s
    | e :: _ => if headWaits e then takeUp e s else s)

/-- STORING_CAPTURE_RETAKE (R41): the STORING capture snapshots the registered state as it now stands. -/
def execStoringCaptureRetake (s : State) : Result :=
  .next
    (match s.ops.list with
    | [] => s
    | e :: _ =>
      match e.body, e.state with
      | .capture l k, .storing => takeCapture e l k s
      | _, _ => s)

end Sys2Proof.Machine
end

