-- ==== Sys2Proof/Machine/Service.lean ====
section
/-! DEFINITION. The Service Port: the commands and their bytes, the judgement of a command, the reports, and
the meanings of the service line's commands. -/

namespace Sys2Proof.Machine

/-! ### Commands and their bytes (R227, R228) -/

/-- A service command that passed its tests. -/
inductive ServiceCmd where
  | ident
  | status (group : Fin 6)
  | channels
  | journal (k : Byte)
  | slotRead (level : Fin 256) (slot : Fin 128)
  | slotWrite (level : Fin 256) (slot : Fin 128) (data : List Byte)
  | imageRead (offset length : Nat)
  | imageWrite (offset : Nat) (data : List Byte)
  | lock (level : Fin 256) (locked : Bool)
  | restart
  deriving DecidableEq, Repr

/-- An image range is legal: length 1–64, offset + length at most 400h (R228). -/
def legalRange (offset length : Nat) : Bool :=
  decide (1 ≤ length) && decide (length ≤ 64) && decide (offset + length ≤ 0x400)

/-- The command of a code and its arguments, if length and ranges are legal (R227, tests 3 to 5). -/
def parseCommand (code : Nat) (args : List Byte) : Option ServiceCmd :=
  match code, args with
  | 1, [] => some .ident
  | 2, [g] => if h : g.toNat < 6 then some (.status ⟨g.toNat, h⟩) else none
  | 3, [] => some .channels
  | 4, [k] => some (.journal k)
  | 5, [l, s] => if h : s.toNat < 128 then some (.slotRead l.toFin ⟨s.toNat, h⟩) else none
  | 6, l :: s :: data =>
    if h : s.toNat < 128 ∧ data.length = 8 then some (.slotWrite l.toFin ⟨s.toNat, h.1⟩ data) else none
  | 7, [oh, ol, n] =>
    if legalRange (oh.toNat * 256 + ol.toNat) n.toNat then
      some (.imageRead (oh.toNat * 256 + ol.toNat) n.toNat)
    else none
  | 8, oh :: ol :: n :: data =>
    if legalRange (oh.toNat * 256 + ol.toNat) n.toNat ∧ data.length = n.toNat then
      some (.imageWrite (oh.toNat * 256 + ol.toNat) data)
    else none
  | 9, [l, st] => if st.toNat < 2 then some (.lock l.toFin (decide (st = 1))) else none
  | 10, [] => some .restart
  | _, _ => none

/-- The command of an assembly, or `none` for a BADCMD (R227): the bytes sum to 00h, and code, length and
ranges are legal. -/
def judgeCommand (bytes : List Byte) : Option ServiceCmd :=
  if bytes.foldl (· + ·) 0 = 0 then
    match bytes.dropLast with
    | [] => none
    | code :: args => parseCommand code.toNat args
  else none

/-- Code and arguments of a command (R228). -/
def commandBody : ServiceCmd → List Byte
  | .ident => [0x01]
  | .status g => [0x02, byteOf g.val]
  | .channels => [0x03]
  | .journal k => [0x04, k]
  | .slotRead l s => [0x05, byteOf l.val, byteOf s.val]
  | .slotWrite l s data => [0x06, byteOf l.val, byteOf s.val] ++ data
  | .imageRead off len => [0x07] ++ natBytes off ++ [byteOf len]
  | .imageWrite off data => [0x08] ++ natBytes off ++ [byteOf data.length] ++ data
  | .lock l st => [0x09, byteOf l.val, boolByte st]
  | .restart => [0x0A]

/-- The bytes of a command as a terminal sends them: body and sum byte (R227). -/
def withSum (body : List Byte) : List Byte := body ++ [sumByte body]

/-! ### Reports (R231) -/

/-- An item that the image gives: absent (FFh) until it has been loaded (R231). -/
def item (loaded : Bool) (b : Byte) : Byte := if loaded then b else 0xFF

/-- The roles byte: bit 0 LEVEL, bit 1 SHOE (R216). DEDUCED (log 19). -/
def rolesByte (lr sr : Bool) : Byte := byteOf ((if lr then 1 else 0) + (if sr then 2 else 0))

/-- The image's values apply: loaded outside SAFE (R219, R221). -/
def applied (s : State) : Bool := sampling s && !s.start.safe

/-- Group 0, Station. In SAFE the image gives the contact Tdb alone; bit rate and indicators stand at their
SAFE values, the other image items are absent (R219, R231). DEDUCED (log 19). -/
def statusStation (s : State) : List Byte :=
  let p := s.params
  let a := applied s
  let l := sampling s
  [byteOf s.start.station.val, boolByte s.start.safeStrap, byteOf s.view.mode.value,
    (s.start.outcome.map (fun o => byteOf o.value)).getD 0xFF, item a (rolesByte p.levelRole p.shoeRole),
    item a (byteOf p.p), item a (byteOf p.tmax), item a (byteOf p.tover), item a (byteOf p.tsettle),
    item l (byteOf p.contactTdb), item a (byteOf p.pistonTdb), item l (byteOf p.rate.code),
    item a (byteOf p.g), item a (byteOf p.s), item a (byteOf p.h)]
  ++ (wordBytes p.mask).map (item a) ++ [item a (byteOf p.filter.toNat)]
  ++ p.indicators.toList.map (fun f => item l (byteOf (indicatorCode f)))
  ++ wordBytes s.journal.timeTag ++ [boolByte s.view.duplicateSeen]

/-- Group 1, Console View (R231). Before the load event, the role not being known, the READY condition and the lock flag are
sent as at a station without the LEVEL role, FFh, and not as their reset values. DESIGN CHOICE (log 37). -/
def statusView (s : State) : List Byte :=
  let v := s.view
  [byteOf v.level.val, (v.lastRecall.map (fun r => byteOf r.1.val)).getD 0xFF,
    (v.lastRecall.map (fun r => byteOf r.2.val)).getD 0xFF, boolByte v.setter, boolByte v.tutti,
    (v.tuttiOrigin.map (fun o => byteOf o.val)).getD 0xFF, byteOf v.program.val, byteOf v.stage.val,
    boolByte v.fresh, item s.params.levelRole (boolByte v.ready),
    item s.params.levelRole (boolByte (locked s.store.lockCopy v.level))]

/-- One roster entry of group 2 (R231). -/
def rosterItem (s : State) (n : Station) : List Byte :=
  match s.view.roster[n] with
  | none => []
  | some e =>
    [byteOf n.val, boolByte e.levelRole, boolByte e.shoeRole] ++ wordBytes e.firstHeard
      ++ wordBytes e.lastHeard

/-- Group 2, Roster (R231). -/
def statusRoster (s : State) : List Byte :=
  byteOf ((List.finRange 16).filter (fun n => s.view.roster[n].isSome)).length
    :: (List.finRange 16).flatMap (rosterItem s)

/-- Kind and counts of the DRIVING operation; absent values as FFh (R231; log 19). -/
def drivingItems : Option Driving → List Byte
  | none => 0 :: List.replicate 11 0xFF
  | some d =>
    [1, byteOf d.body.kind] ++ wordBytes d.counts.planned ++ wordBytes d.counts.done
      ++ wordBytes d.counts.yielded ++ wordBytes d.counts.retries ++ wordBytes d.counts.carried

/-- Group 3, Operations and drive (R231). -/
def statusOperations (s : State) : List Byte :=
  [byteOf s.ops.list.length, (s.ops.list.head?.map (fun e => byteOf e.body.kind)).getD 0xFF,
    (s.ops.list.head?.map (fun e => byteOf e.state.value)).getD 0xFF]
  ++ drivingItems s.ops.driving
  ++ [byteOf s.drive.queue.length, byteOf (energizedCount s), byteOf (heldCount s),
    byteOf s.drive.supply.value, byteOf (faultedCount s)]

/-- Group 4, Store and link (R231). -/
def statusStore (s : State) : List Byte :=
  [byteOf s.store.queue.length, byteOf (markCount s), boolByte s.store.fetch.isSome,
    boolByte (decide (s.store.mem = .busy)), boolByte s.store.faultLit, byteOf s.link.line.value,
    byteOf s.link.txq.length, boolByte s.link.hand.isSome,
    (s.link.hand.map (fun h => byteOf h.frame.kind)).getD 0xFF,
    (s.link.hand.map (fun h => byteOf h.attempts)).getD 0, boolByte s.link.stretch.isSome,
    boolByte s.link.linkFault.isSome]

/-- Group 5, Crescendo and pistons (R231). A debounced piston state is sent as 01h pressed, 00h released: the model's
choice, R123 giving no list of the two states. DESIGN CHOICE (log 19). -/
def statusCrescendo (s : State) : List Byte :=
  let k := s.cresc
  natBytes s.store.c0.val ++ natBytes s.store.c1.val
  ++ [boolByte (decide (k.cal = .faulted)), boolByte k.procedure.isSome]
  ++ (k.procedure.map (fun c => natBytes c.val)).getD [0xFF, 0xFF]
  ++ [byteOf k.program.val, byteOf k.stage.val, byteOf k.lastSent.1.val, byteOf k.lastSent.2.val,
    boolByte k.interval.isSome]
  ++ s.pistons.inputs.toList.map (fun p => boolByte p.pressed)

/-- The items of a STATUS group (R231). -/
def statusData (g : Fin 6) (s : State) : List Byte :=
  match g with
  | 0 => statusStation s
  | 1 => statusView s
  | 2 => statusRoster s
  | 3 => statusOperations s
  | 4 => statusStore s
  | 5 => statusCrescendo s

/-- The six bytes of a channel in a CHANNELS reply (R231). Registered state, debounced contact and speaking are sent
as 01h on, 00h off, and the fault flag as 01h set, 00h clear: the model's choice, R231 giving bytes for yes and
no alone. DESIGN CHOICE (log 19). -/
def channelItem (s : State) (c : Chan) : List Byte :=
  let x := s.channels[c]
  [byteOf x.type.value, boolByte x.registered, boolByte x.contact, boolByte (s.relay.speaking.has c),
    byteOf x.drive.value, boolByte x.fault]

/-- The 48 channel entries (R231). -/
def channelsData (s : State) : List Byte := (List.finRange 48).flatMap (channelItem s)

/-- The position of the record k back from the newest (R211). -/
def journalPosition (j : Journal) (k : Nat) : Fin 32 := Fin.ofNat 32 (j.next.val + 64 - 1 - k)

/-- The data of a JOURNAL k reply (R211). -/
def journalData (k : Nat) (s : State) : List Byte :=
  if k < 32 ∧ k < s.journal.held then
    match s.journal.records[journalPosition s.journal k] with
    | some r => r.bytes
    | none => noRecordBytes
  else noRecordBytes

/-- The data of an IDENT reply: family 5Ch, part 30h, revision 01h, station number (R228). -/
def identData (s : State) : List Byte := [0x5C, 0x30, 0x01, byteOf s.start.station.val]

/-! ### Resets (R220, R224) -/

/-- Every block at its reset values. What no reset touches stays: the outside, the memory's contents, the
relay's output register, the waiting commands; the journal and the time base are the caller's to reset. -/
def resetBlocks (s : State) : State :=
  { State.reset with
    pending := s.pending
    pins := s.pins
    memory := s.memory
    start := Start.reset s.pins.straps s.pins.safeStrap
    relay := Relay.reset s.relay.pipes
    journal := s.journal
    time := s.time
    torn := s.torn }

/-- Every record still open for an operation closes DROPPED (R207). -/
def dropOperations (s : State) : State := closeDriving .dropped (closeAll .dropped s.ops.list s)

/-- The warm restart of a RESTART (R224, R234): the OK reply goes on being sent, everything else restarts. -/
def warmRestart (s : State) : State :=
  let s1 := resetBlocks (dropOperations s)
  { s1 with port := { Port.reset with state := .replying, reply := replyBytes .ok [] } }

/-! ### Taking a command (R230, R232–R234) -/

/-- In STARTING the command is answered BUSY (R230). -/
def unlessStarting (s : State) (t : State) : State :=
  if s.view.mode = .starting then beginReply .busy [] s else t

/-- A service read becomes the fetch path's request, or is answered BUSY while a fetch is in flight (R85,
R232). -/
def takeRead (req : FetchReq) (s : State) : State :=
  match s.store.fetch with
  | some _ => beginReply .busy [] s
  | none => requestFetch req { s with port := { s.port with state := .executing } }

/-- Answers a write: OK when it is entered, BUSY when it finds no place (R233). -/
def answerWrite (entered : Option State) (s : State) : State :=
  match entered with
  | some s' => beginReply .ok [] s'
  | none => beginReply .busy [] s

/-- LOCK (R88, R230, R233): at a LEVEL-role station in RUN or LISTEN; NOTROLE elsewhere. -/
def takeLock (level : Fin 256) (lock : Bool) (s : State) : State :=
  if working s && s.params.levelRole then beginReply .ok [] (setLock level lock s)
  else beginReply .notRole [] s

/-- RESTART (R230, R234): refused while the write queue holds an entry or a deferred mark is set. -/
def takeRestart (s : State) : State :=
  if s.store.queue = [] ∧ anyMark s = false then warmRestart s else beginReply .busy [] s

/-- Takes a command that passed its tests, by mode and role (R230). -/
def takeCommand (c : ServiceCmd) (s : State) : State :=
  match c with
  | .ident => beginReply .ok (identData s) s
  | .status g => beginReply .ok (statusData g s) s
  | .channels => unlessStarting s (beginReply .ok (channelsData s) s)
  | .journal k => beginReply .ok (journalData k.toNat s) s
  | .slotRead l k => unlessStarting s (takeRead (.slotRead l k) s)
  | .slotWrite l k data => unlessStarting s (answerWrite (enterWrite (.slot l k) data none s) s)
  | .imageRead off len => unlessStarting s (takeRead (.imageRead off len) s)
  | .imageWrite off data => unlessStarting s (answerWrite (enterImage off data s) s)
  | .lock l st => unlessStarting s (takeLock l st s)
  | .restart => unlessStarting s (takeRestart s)

/-- The end of a command: the assembly is judged and the command taken, or BADCMD answered (R226, R227). -/
def endCommand (spoilt : Bool) (bytes : List Byte) (s : State) : State :=
  let s1 := { s with port := { s.port with assembly := [], bad := false, overlong := false } }
  match (if spoilt then none else judgeCommand bytes) with
  | some c => takeCommand c s1
  | none => beginReply .badcmd [] s1

/-- The port can take this command in this event: LISTENING, or ASSEMBLING with exactly these bytes and no
mark. -/
def portTakes (bytes : List Byte) (s : State) : Bool :=
  decide (s.port.state = .listening)
    || (decide (s.port.state = .assembling) && decide (s.port.assembly = bytes) && !s.port.bad
      && !s.port.overlong)

/-- A service command given whole: its bytes end and are judged in this event (R226, R227; log 18). -/
def serviceCommand (body : List Byte) (s : State) : Result :=
  .next (if portTakes (withSum body) s then endCommand false (withSum body) s else s)

/-- IDENT (R228). -/
def execIdent (s : State) : Result := serviceCommand [0x01] s

/-- STATUS (R231). -/
def execStatus (group : Byte) (s : State) : Result := serviceCommand [0x02, group] s

/-- CHANNELS (R231). -/
def execChannels (s : State) : Result := serviceCommand [0x03] s

/-- JOURNAL (R211). -/
def execJournal (k : Byte) (s : State) : Result := serviceCommand [0x04, k] s

/-- SLOT READ (R232). -/
def execSlotRead (level slot : Byte) (s : State) : Result := serviceCommand [0x05, level, slot] s

/-- SLOT WRITE (R233). -/
def execSlotWrite (level slot : Byte) (data : List Byte) (s : State) : Result :=
  serviceCommand ([0x06, level, slot] ++ data) s

/-- IMAGE READ (R232). -/
def execImageRead (offset : Word) (length : Byte) (s : State) : Result :=
  serviceCommand ([0x07] ++ wordBytes offset ++ [length]) s

/-- IMAGE WRITE (R233). -/
def execImageWrite (offset : Word) (data : List Byte) (s : State) : Result :=
  serviceCommand ([0x08] ++ wordBytes offset ++ [byteOf data.length] ++ data) s

/-- The service LOCK command (R233). -/
def execServiceLock (level state : Byte) (s : State) : Result := serviceCommand [0x09, level, state] s

/-- RESTART (R234). -/
def execRestart (s : State) : Result := serviceCommand [0x0A] s

/-! ### The port's own events (R226, R229) -/

/-- The port after an arrival, by its state (R226). -/
def Port.arrival (p : Port) (b : Byte) (framed : Bool) : Port :=
  match p.state with
  | .listening =>
    { p with
      state := .assembling
      assembly := if framed then [b] else []
      bad := !framed
      overlong := false
      gap := some 0 }
  | .assembling =>
    if framed then
      if p.assembly.length < Config.assemblyCapacity then
        { p with assembly := p.assembly ++ [b], gap := some 0 }
      else { p with overlong := true, gap := some 0 }
    else { p with bad := true, gap := some 0 }
  | .executing => { p with arrived := true, gap := some 0 }
  | .replying => { p with arrived := true, gap := some 0 }
  | .discarding => { p with gap := some 0 }

/-- SERVICE_BYTE_ARRIVAL (R226). -/
def execServiceByteArrival (b : Byte) (framed : Bool) (s : State) : Result :=
  .next { s with port := s.port.arrival b framed }

/-- GAP_TIMER_EXPIRY (R226): in ASSEMBLING the command ends and is judged; in DISCARDING the port returns to
LISTENING; elsewhere nothing. -/
def execGapTimerExpiry (s : State) : Result :=
  .next
    (match s.port.state with
    | .assembling => endCommand (s.port.bad || s.port.overlong) s.port.assembly s
    | .discarding => { s with port := { s.port with state := .listening } }
    | _ => s)

/-- The gap timer stands at 50 ms or more (R226). -/
def gapElapsed (p : Port) : Bool :=
  match p.gap with
  | some n => decide (Config.gapMs ≤ n)
  | none => true

/-- The port at the end of a reply (R226, R229): LISTENING, or DISCARDING if bytes arrived meanwhile, which
passes at once to LISTENING where the gap has elapsed. -/
def Port.endReply (p : Port) : Port :=
  { p with
    state := if p.arrived && !gapElapsed p then .discarding else .listening
    arrived := false
    reply := []
    replyUs := 0 }

/-- REPLY_END (R229). -/
def execReplyEnd (s : State) : Result :=
  .next (if s.port.state = .replying then { s with port := s.port.endReply } else s)

end Sys2Proof.Machine
end

