-- ==== Sys2Proof/Machine/Frames.lean ====
section
/-! DEFINITION. The delivery of an accepted frame (R161, R177) and the meanings of the ten commands that
deliver one, by kind. The roster, the effect on the view and the blocks, the new-station actions and the
duplicate check stand in the order of R177. -/

namespace Sys2Proof.Machine

/-- Changes the Console View. -/
def setView (v : View) (s : State) : State := { s with view := v }

/-! ### Step 1: roster and READY (R190–R194) -/

/-- Role flags of an ANNOUNCE. -/
def announcedRoles : Msg → Option (Bool × Bool)
  | .announce lr sr _ _ => some (lr, sr)
  | _ => none

/-- A fresh ANNOUNCE. -/
def isFresh : Msg → Bool
  | .announce _ _ fr _ => fr
  | _ => false

/-- The role flags a first entry takes: the station's own from its image for a transmitted frame, the
frame's for an ANNOUNCE, else both no (R190, R191). -/
def firstRoles (s : State) (mark : Mark) (m : Msg) : Bool × Bool :=
  match mark with
  | .transmitted => (s.params.levelRole, s.params.shoeRole)
  | .received => (announcedRoles m).getD (false, false)

/-- The origin's entry after a delivered frame (R190, R191, R193). A fresh ANNOUNCE of a duplicate renews the own
entry. DEDUCED (log 21). -/
def heardEntry (s : State) (mark : Mark) (m : Msg) : Option RosterEntry → RosterEntry
  | none =>
    { levelRole := (firstRoles s mark m).1, shoeRole := (firstRoles s mark m).2,
      firstHeard := s.journal.timeTag, lastHeard := s.journal.timeTag }
  | some e =>
    { levelRole := ((announcedRoles m).getD (e.levelRole, e.shoeRole)).1
      shoeRole := ((announcedRoles m).getD (e.levelRole, e.shoeRole)).2
      firstHeard := if mark = .received ∧ isFresh m then s.journal.timeTag else e.firstHeard
      lastHeard := s.journal.timeTag }

/-- The delivery lists a new station or renews one: never this station's own number (R190–R193). -/
def isNewStation (s : State) (mark : Mark) (origin : Station) (m : Msg) : Bool :=
  decide (mark = .received) && decide (origin ≠ s.start.station)
    && (s.view.roster[origin].isNone || isFresh m)

/-- The origin is listed, renewed or updated (R190). -/
def hear (mark : Mark) (origin : Station) (m : Msg) (s : State) : State :=
  setView
    { s.view with roster := s.view.roster.set origin (some (heardEntry s mark m s.view.roster[origin])) } s

/-- READY is judged at a LEVEL-role station; SAFE applies no role (R194). -/
def judgeReady (s : State) : State :=
  setView
    { s.view with ready := if s.params.levelRole then rosterMeetsMask s else s.view.ready } s

/-! ### Steps 2 and 3: fields and blocks, by kind (R179–R188) -/

/-- Hands a frame to the Operation Sequencer, in RUN and LISTEN (R24, R198). -/
def toSequencer (mark : Mark) (header : Byte) (m : Msg) (s : State) : State :=
  if working s then considerFrame mark header m s else s

/-- Recomposes the speaking set where a block acts on a changed field, in RUN and LISTEN (R115, R118,
R198). -/
def recomposeIf (changed : Bool) (s : State) : State := if changed && working s then recompose s else s

/-- CANCEL (R179). -/
def effectCancel (mark : Mark) (header : Byte) (scope : Byte) (s : State) : State :=
  toSequencer mark header (.cancel scope) s

/-- RECALL (R180): a slot of 80h–FFh is ignored. -/
def effectRecall (mark : Mark) (header : Byte) (level slot : Byte) (s : State) : State :=
  if slot.toNat < 128 then
    toSequencer mark header (.recall level slot)
      (setView
        { s.view with
          level := level.toFin
          lastRecall := some (level.toFin, Fin.ofNat 128 slot.toNat) } s)
  else s

/-- CAPTURE (R181): a slot of 80h–FFh is ignored. -/
def effectCapture (mark : Mark) (header : Byte) (level slot : Byte) (s : State) : State :=
  if slot.toNat < 128 then
    toSequencer mark header (.capture level slot)
      (setView
        { s.view with
          level := level.toFin
          lastRecall := some (level.toFin, Fin.ofNat 128 slot.toNat) } s)
  else s

/-- HANDSET (R182). -/
def effectHandset (mark : Mark) (header : Byte) (on : Bool) (stop : Fin 1024) (s : State) : State :=
  toSequencer mark header (.handset on stop) s

/-- TOGGLE (R183). -/
def effectToggle (mark : Mark) (header : Byte) (a : Fin 4) (stop : Fin 1024) (s : State) : State :=
  toSequencer mark header (.toggle a stop) s

/-- TUTTI (R184, R118). -/
def effectTutti (header : Byte) (on : Bool) (s : State) : State :=
  recomposeIf (decide (s.view.tutti ≠ on))
    (setView { s.view with tutti := on, tuttiOrigin := some (headerOrigin header) } s)

/-- A received stage; 60–63 are taken as 59 (R185). -/
def stageOf (st : Fin 64) : Fin 60 := Fin.ofNat 60 (min 59 st.val)

/-- STAGE (R185, R115). -/
def effectStage (program : Fin 4) (stage : Fin 64) (s : State) : State :=
  recomposeIf (decide (s.view.program ≠ program) || decide (s.view.stage ≠ stageOf stage))
    (setView { s.view with program := program, stage := stageOf stage } s)

/-- SETTER (R186): a change from armed to released abandons a FIRST TAKEN procedure (R101). -/
def effectSetter (armed : Bool) (s : State) : State :=
  let s1 := setView { s.view with setter := armed } s
  if s.view.setter && !armed then { s1 with cresc := { s1.cresc with procedure := none } } else s1

/-- LEVEL (R187). -/
def effectLevel (level : Byte) (s : State) : State := setView { s.view with level := level.toFin } s

/-- ANNOUNCE (R188): the level of a LEVEL-role sender that is not fresh; the station's own delivered ANNOUNCE
clears its fresh field (R193). -/
def effectAnnounce (mark : Mark) (levelRole fresh : Bool) (level : Byte) (s : State) : State :=
  setView
    { s.view with
      level := if levelRole && !fresh then level.toFin else s.view.level
      fresh := if mark = .transmitted then false else s.view.fresh } s

/-- The effect of a delivered frame on the view and the blocks (R177, steps 2 and 3). -/
def effect (mark : Mark) (header : Byte) (m : Msg) (s : State) : State :=
  match m with
  | .cancel scope => effectCancel mark header scope s
  | .recall l k => effectRecall mark header l k s
  | .capture l k => effectCapture mark header l k s
  | .handset on stop => effectHandset mark header on stop s
  | .toggle a stop => effectToggle mark header a stop s
  | .tutti on => effectTutti header on s
  | .stage p st => effectStage p st s
  | .setter armed => effectSetter armed s
  | .level l => effectLevel l s
  | .announce lr _ fr l => effectAnnounce mark lr fr l s

/-! ### Step 4: new-station actions (R192) -/

/-- What a station in RUN hands over for a new or renewed station, in order (R192, R110). -/
def newStationActions (s : State) : State :=
  let s1 := handOver .announce s
  let s2 := if s.params.shoeRole then sendStage s1 else s1
  if s.view.tuttiOrigin = some s.start.station then handOver .tuttiResend s2 else s2

/-- Step 4 of a delivery, in RUN. -/
def greet (isNew : Bool) (s : State) : State :=
  if isNew && decide (s.view.mode = .run) then newStationActions s else s

/-! ### Step 5: duplicate detection (R195, R197) -/

/-- Entry to LISTEN: each block takes up LISTEN (R197). -/
def enterListen (s : State) : State :=
  judgeReady
    { s with
      view := { s.view with mode := .listen }
      link := { s.link with txq := [], hand := none }
      pistons := { s.pistons with seqEnd := none }
      flashes := { s.flashes with seqEnd := none }
      cresc := { s.cresc with procedure := none, interval := none } }

/-- A duplicate's frame (R195). -/
def detectDuplicate (header : Byte) (s : State) : State :=
  let s1 := reportFault .duplicateId 0 header 0 0 s
  let s2 := setView { s1.view with duplicateSeen := true } s1
  match s.view.mode, s.view.duplicateSeen with
  | .run, false => enterListen s2
  | .safe, false => s2
  | _, _ => s

/-- Step 5 of a delivery. -/
def checkDuplicate (mark : Mark) (header : Byte) (s : State) : State :=
  if mark = .received ∧ headerOrigin header = s.start.station then detectDuplicate header s else s

/-! ### The delivery event (R177) -/

/-- A delivered frame, in the order of R177. -/
def deliver (mark : Mark) (header : Byte) (m : Msg) (s : State) : State :=
  checkDuplicate mark header
    (greet (isNewStation s mark (headerOrigin header) m)
      (effect mark header m (judgeReady (hear mark (headerOrigin header) m s))))

/-- The mark of the frame on the link at STOP (R157). -/
def stopMark (s : State) : Option Mark :=
  match s.link.line with
  | .sending => some .transmitted
  | .receiving => some .received
  | _ => none

/-- The frame that STOP delivers here as a frame of this kind, if it does: whole, with a good check at a
receiver, and neither objected nor vetoed by this station (R161, R176; log 11). -/
def acceptedFrame (kind : Nat) (s : State) : Option (Mark × Byte × Msg) :=
  match s.link.assembly, stopMark s with
  | some f, some mark =>
    match frameMsg f with
    | some m =>
      if headerKind f.header = kind ∧ (mark = .transmitted ∨ frameGood f = true) ∧ s.link.objection = false
          ∧ s.link.veto = false then
        some (mark, f.header, m)
      else none
    | none => none
  | _, _ => none

/-- The link at the STOP of an accepted frame: IDLE, and a transmitter's frame leaves hand (R161–R163). -/
def stopLink (mark : Mark) (s : State) : State :=
  setLink
    { s.link.leaveFrame .idle with
      hand := if mark = .transmitted then none else s.link.hand } s

/-- STOP of an accepted frame of one kind: the link passes to IDLE and the frame is delivered. -/
def acceptFrame (kind : Nat) (s : State) : State :=
  match acceptedFrame kind s with
  | some (mark, header, m) => deliver mark header m (stopLink mark s)
  | none => s

/-- CANCEL_FRAME (R179). -/
def execCancelFrame (s : State) : Result := .next (acceptFrame 0 s)

/-- RECALL_FRAME (R180). -/
def execRecallFrame (s : State) : Result := .next (acceptFrame 1 s)

/-- CAPTURE_FRAME (R181). -/
def execCaptureFrame (s : State) : Result := .next (acceptFrame 2 s)

/-- HANDSET_FRAME (R182). -/
def execHandsetFrame (s : State) : Result := .next (acceptFrame 3 s)

/-- TOGGLE_FRAME (R183). -/
def execToggleFrame (s : State) : Result := .next (acceptFrame 4 s)

/-- TUTTI_FRAME (R184). -/
def execTuttiFrame (s : State) : Result := .next (acceptFrame 5 s)

/-- STAGE_FRAME (R185). -/
def execStageFrame (s : State) : Result := .next (acceptFrame 6 s)

/-- SETTER_FRAME (R186). -/
def execSetterFrame (s : State) : Result := .next (acceptFrame 7 s)

/-- LEVEL_FRAME (R187). -/
def execLevelFrame (s : State) : Result := .next (acceptFrame 8 s)

/-- ANNOUNCE_FRAME (R188). -/
def execAnnounceFrame (s : State) : Result := .next (acceptFrame 9 s)

end Sys2Proof.Machine
end

