-- ==== Sys2Proof/Machine/StartUp.lean ====
section
/-! DEFINITION. Meanings of the commands of a start: COLD_RESET, LOAD_EVENT and START_UP_COMPLETION, and of
FLASH_TIMER_EXPIRY. -/

namespace Sys2Proof.Machine

/-- A write in flight is cut by a cold reset: its target is left with old bytes, new bytes or a mixture
(R73). -/
def cutWrite (s : State) : State :=
  match s.store.queue with
  | [] => s
  | e :: _ => if e.inFlight then tearWrite e s else s

/-- The reset event of a cold reset (R220): every block at its reset values, the journal cleared, the time
base and the time tag from 0, the straps read. -/
def coldReset (s : State) : State :=
  { resetBlocks (cutWrite s) with
    journal := Journal.reset
    time := TimeBase.reset }

/-- COLD_RESET (R220). -/
def execColdReset (s : State) : Result := .next (coldReset s)

/-- The bytes of the image that are read, 00000h–00325h. A memory that has not answered by the load event gives
no byte, and so none that passes the first test (R215). DEDUCED (log 10). -/
def readImage (s : State) : List Byte :=
  if s.pins.memReady then memReadRange s.memory 0 0x326 else []

/-- Journals the clamped fields of an image in ascending order of offset (R218, R210). -/
def reportClamped : List (Nat × Nat) → State → State
  | [], s => s
  | (off, v) :: rest, s =>
    reportClamped rest
      (reportFault .configClamped (byteOf (off / 256)) (byteOf off) (byteOf (v / 256)) (byteOf v) s)

/-- Step 3 of the load: the image's tables and values are loaded and the clamped fields journaled (R221). -/
def loadImage (img : List Byte) (s : State) : State :=
  let s1 := reportClamped (clampedFields img) s
  { s1 with params := paramsOf img, channels := Vector.ofFn (channelOf img) }

/-- Step 4 of the load: a LEVEL-role station reads the lock table (R88). -/
def loadLocks (s : State) : State :=
  if s.params.levelRole then
    { s with store := { s.store with lockCopy := lockCopyOf (memReadRange s.memory 0x400 32) } }
  else s

/-- Step 5 of the load: a SHOE-role station reads the calibration and judges it (R92, R98). -/
def loadCalibration (s : State) : State :=
  if s.params.shoeRole then
    let c0 := calibrationWord (memRead s.memory 0x420) (memRead s.memory 0x421)
    let c1 := calibrationWord (memRead s.memory 0x422) (memRead s.memory 0x423)
    let s1 :=
      { s with
        store := { s.store with c0 := c0, c1 := c1 }
        cresc := { s.cresc with cal := judgeCal c0 c1 } }
    if judgeCal c0 c1 = .faulted then reportShoeFault c0 c1 s1 else s1
  else s

/-- What SAFE takes from the image: the contact Tdb where the image passed, 16 ms otherwise. The bit rate is
62.5 kbit/s, no role applies, the indicators are taken as none, and every other value and table is as it was
(R219). -/
def safeParams (outcome : ImageOutcome) (img : List Byte) (p : Params) : Params :=
  { p with
    contactTdb := if outcome = .passed then contactTdbOf img else 16
    rate := .slow
    levelRole := false
    shoeRole := false
    indicators := Vector.replicate 8 .none }

/-- The load event (R221): the memory is IDLE, the image is judged and the mode settled; outside SAFE the
image, the lock table and the calibration are loaded; the samplers and the start-up wait start. -/
def load (s : State) : State :=
  let img := readImage s
  let outcome := judgeImage img
  let safe := s.start.safeStrap || decide (outcome ≠ .passed)
  let s1 :=
    { s with
      store := { s.store with mem := .idle }
      start := { s.start with outcome := some outcome, safe := safe, poll := none, wait := some 0 }
      time := { s.time with shoeMs := 0 } }
  if safe then { s1 with params := safeParams outcome img s.params }
  else loadCalibration (loadLocks (loadImage img s1))

/-- LOAD_EVENT (R221): the memory state first becomes IDLE after a reset. -/
def execLoadEvent (s : State) : Result :=
  .next (if s.view.mode = .starting ∧ s.start.poll.isSome then load s else s)

/-- A channel record as the first registration leaves it (R14, R222). -/
def firstRegistration (x : Channel) : Channel :=
  { x with registered := if x.type = .lit then false else x.contact }

/-- Step 2 of the completion: the first speaking set, and its shift whatever the relay last latched (R20). -/
def firstShift (s : State) : State :=
  { s with relay := { s.relay with
      speaking := composedSet s
      shift := some (composedSet s)
      shiftUs := 0 } }

/-- Step 3 of the completion: RUN or SAFE as the load settled, and the line SEEKING (R222). CRESC begins to
flash at a shoe station whose start-up calibration was faulted (R236). -/
def enterMode (s : State) : State :=
  { s with
    view := { s.view with mode := if s.start.safe then .safe else .run }
    link := s.link.leaveFrame .seeking
    start := { s.start with wait := none }
    flashes := { s.flashes with
      cresc :=
        if !s.start.safe && s.params.shoeRole && decide (s.cresc.cal = .faulted) then
          some { lit := true, ms := 0 }
        else none } }

/-- Steps 4 to 6 of the completion, in RUN: the ANNOUNCE, the origination check, the READY judgement (R222,
R111, R194). -/
def announceRun (s : State) : State :=
  if s.view.mode = .run then
    let s1 := handOver .announce s
    judgeReady (if s.params.shoeRole then originationCheck s1 else s1)
  else s

/-- The completion event (R222). -/
def complete (s : State) : State :=
  announceRun
    (enterMode
      (firstShift { s with channels := Vector.ofFn (fun c => firstRegistration s.channels[c]) }))

/-- START_UP_COMPLETION (R222): the start-up wait expires. -/
def execStartUpCompletion (s : State) : Result :=
  .next (if s.view.mode = .starting ∧ s.start.wait.isSome then complete s else s)

/-- A flash timer ends: lit and dark change places and the timer starts again (R236). -/
def Flash.toggle (f : Flash) : Flash := { lit := !f.lit, ms := 0 }

/-- FLASH_TIMER_EXPIRY (R236). -/
def execFlashTimerExpiry (f : FlashFn) (s : State) : Result :=
  .next
    (match f with
    | .cresc => { s with flashes := { s.flashes with cresc := s.flashes.cresc.map Flash.toggle } }
    | .seqEnd => { s with flashes := { s.flashes with seqEnd := s.flashes.seqEnd.map Flash.toggle } })

end Sys2Proof.Machine
end

