-- ==== Sys2Proof/Machine/StoreControl.lean ====
section
/-! DEFINITION. Meanings of the Store Controller's commands: FETCH_SERVE, FETCH_RESULT, WRITE_ISSUE,
WRITE_COMPLETE and STORE_FAULT. -/

namespace Sys2Proof.Machine

/-- FETCH_SERVE (R85, R86): a waiting fetch is served once the memory is IDLE, the newest write of its slot being
looked for then. Forwarding that does not wait is made with the request (`requestFetch`). -/
def execFetchServe (s : State) : Result := .next (if s.store.mem = .idle then serveFetch s else s)

/-- A RECALL's fetch classified CHECK_FAIL (R32, R77): the FAULT record, then the entry leaves the list and
its record closes FAILED; nothing else changes. The order of the two records is the model's (log 20). -/
def failRecall (level : Fin 256) (slot : Fin 128) (s : State) : State :=
  let s1 := reportFault .checkFail (byteOf level.val) (byteOf slot.val) 0 0 s
  leaveList (closeRecord (s1.ops.list.head?.bind (fun e => e.record)) .failed (some .checkFail) s1)

/-- The result of the FETCHING RECALL at the head (R32). -/
def recallOutcome (e : OpEntry) (level : Fin 256) (slot : Fin 128) (bytes : List Byte) (s : State) : State :=
  match classify bytes with
  | .written pattern => plan e (fun c => pattern.has c) s
  | .blank => plan e (fun _ => false) s
  | .corrupt => failRecall level slot s

/-- Delivers a fetch result (R87): to the FETCHING RECALL at the head, or discarded where that RECALL has
been pruned; to the Service Port for a service read (R232). -/
def deliverFetch (req : FetchReq) (bytes : List Byte) (s : State) : State :=
  match req with
  | .recall l k =>
    match s.ops.list with
    | [] => s
    | e :: _ => if e.state = .fetching then recallOutcome e l k bytes s else s
  | .slotRead _ _ => beginReply .ok (bytes ++ [(classify bytes).byte]) s
  | .imageRead _ _ => beginReply .ok bytes s

/-- FETCH_RESULT (R87): the result is delivered, the fetch path is free, and a RECALL waiting for it is
issued. -/
def execFetchResult (s : State) : Result :=
  .next
    (match s.store.fetch with
    | none => s
    | some f =>
      match f.result with
      | none => s
      | some bytes =>
        issueWaitingRecall (deliverFetch f.req bytes { s with store := { s.store with fetch := none } }))

/-- The conditions of a write issue (R82). -/
def canIssueWrite (s : State) : Bool :=
  match s.store.queue with
  | [] => false
  | e :: _ => !e.inFlight && decide (s.store.mem = .idle) && !fetchWaiting s

/-- Issues the head write where R82 allows: the head entry is in flight, the memory BUSY, and the write timer starts
from 0. -/
def issueWrite (s : State) : State :=
  match s.store.queue with
  | [] => s
  | e :: rest =>
    if canIssueWrite s then
      { s with store := { s.store with
          queue := { e with inFlight := true } :: rest
          mem := .busy
          writeTimer := some 0 } }
    else s

/-- WRITE_ISSUE (R82): the issue of the head write where it is an event of its own, which is wherever it does not
follow the end of another write (log 16). -/
def execWriteIssue (s : State) : Result := .next (issueWrite s)

/-- What follows the end of a write within its event: a waiting fetch is served, then one deferred mark, then the next
head write is issued (R83, R84). A STORING capture is taken up again in an event of its own (R41); that the issue does
not wait for that event is the model's reading (log 16). -/
def afterWrite (s : State) : State := issueWrite (serveMark (serveFetch s))

/-- The head entry leaves the queue: the memory is IDLE and the write timer stopped (R73, R83, R84). -/
def endWrite (lit : Bool) (s : State) : State :=
  { s with store := { s.store with
      queue := s.store.queue.tail
      mem := .idle
      writeTimer := none
      faultLit := lit } }

/-- A write completes (R83). -/
def completeWrite (e : WriteEntry) (s : State) : State :=
  afterWrite (closeRecord e.capture .closed none (endWrite false (storeWrite e s)))

/-- WRITE_COMPLETE (R83): a status poll reports ready for the write in flight. -/
def execWriteComplete (s : State) : Result :=
  .next
    (match s.store.queue with
    | [] => s
    | e :: _ => if e.inFlight then completeWrite e s else s)

/-- Parameter of a STORE_FAULT record (R210). -/
def storeFaultParam : Target → Byte × Byte × Byte × Byte
  | .slot l k => (0, byteOf l.val, byteOf k.val, 0)
  | .lockByte n => (1, byteOf n.val, 0, 0)
  | .calibration => (2, 0, 0, 0)
  | .image page first len => (3, byteOf page.val, byteOf first.val, byteOf (len - 1))

/-- The STORE_FAULT record of a target (R84). -/
def reportStoreFault (t : Target) (s : State) : State :=
  let p := storeFaultParam t
  reportFault .storeFault p.1 p.2.1 p.2.2.1 p.2.2.2 s

/-- What a faulted write leaves in the memory: a slot its old bytes or a mixture, every other target as it was
(R84). -/
def faultMemory (e : WriteEntry) (s : State) : State :=
  match e.target with
  | .slot _ _ => tearWrite e s
  | _ => s

/-- A write faults (R84): the FAULT record, the capture's record FAILED, and then as after a completion
(log 20). -/
def faultWrite (e : WriteEntry) (s : State) : State :=
  let s1 := reportStoreFault e.target (faultMemory e s)
  afterWrite
    (endWrite true
      (closeRecord (s1.store.queue.head?.bind (fun e => e.capture)) .failed (some .storeFault) s1))

/-- STORE_FAULT (R84): the write timer reaches 50 ms before a ready report. -/
def execStoreFault (s : State) : Result :=
  .next
    (match s.store.queue with
    | [] => s
    | e :: _ => if e.inFlight then faultWrite e s else s)

end Sys2Proof.Machine
end

