-- ==== Sys2Proof/Machine/Clock.lean ====
section
/-! DEFINITION. What the station does by itself while no command waits: the events whose conditions have come
to hold, the 1 µs time base with the link's bit engine, and the 1 ms tick with its samplers and timers
(00_scope.md, Timers). None of these changes a block's state by itself but for the counts; each event is
put in the queue as its command. The order of events that fall together is the model's (log 2, log 5). -/

namespace Sys2Proof.Machine

/-- Puts commands at the end of the queue. -/
def emit (cs : List Instr) (s : State) : State := { s with pending := s.pending ++ cs }

/-! ### Events whose conditions hold -/

/-- A fetch waits and the memory is IDLE (R85). -/
def canServeFetch (s : State) : Bool := fetchWaiting s && decide (s.store.mem = .idle)

/-- A fetch has its result (R87). -/
def fetchServed (s : State) : Bool :=
  match s.store.fetch with
  | some f => f.result.isSome
  | none => false

/-- The head is a STORING capture whose write now has a place (R41). -/
def canRetake (s : State) : Bool :=
  match s.ops.list with
  | [] => false
  | e :: _ =>
    match e.body, e.state with
    | .capture l k, .storing => s.store.queue.any (waitsFor (.slot l k))
        || decide (s.store.queue.length < Config.writeCapacity)
    | _, _ => false

/-- The head waits to be taken up (R30). -/
def canTakeUp (s : State) : Bool :=
  match s.ops.list with
  | [] => false
  | e :: _ => headWaits e

/-- The event to take next, if the conditions of one hold (R31, R41, R30, R52, R82, R153, R220). -/
def nextInternal (s : State) : Option Instr :=
  if fetchServed s then some .fetchResult
  else if canServeFetch s then some .fetchServe
  else if canRetake s then some .storingCaptureRetake
  else if canTakeUp s then some .takeUpHead
  else if canStartPulse s then some .pulseStart
  else if canIssueWrite s then some .writeIssue
  else if canStartFrame s && quietForStart s then some .frameStart
  else if s.start.atReset && s.start.poll.isSome && s.pins.memReady then some .loadEvent
  else none

/-! ### The bits of a frame (R154) -/

/-- The bits of a byte, most significant first. -/
def byteBits (b : Byte) : List Bool := (List.range 8).map (fun i => b.getLsbD (7 - i))

/-- The byte of bits sent most significant first. -/
def bitsByte (bs : List Bool) : Byte := bs.foldl (fun acc x => (acc <<< 1) ||| (if x then 1 else 0)) 0

/-- The bits of a frame from its first header bit to its last check bit. -/
def frameBits (f : WireFrame) : List Bool :=
  byteBits f.header ++ f.payload.flatMap byteBits ++ byteBits f.check

/-- Byte n of the bits sampled since START. -/
def sampledByte (bits : List Bool) (n : Nat) : Byte := bitsByte ((bits.drop (8 * n)).take 8)

/-- Bits from the first header bit to the last check bit, once the header byte is complete (R158). -/
def frameLength (bits : List Bool) : Option Nat :=
  if bits.length < 8 then none else some (16 + 8 * payloadLength (headerKind (sampledByte bits 0)))

/-- The frame as sampled, once whole (R158). -/
def sampledFrame (bits : List Bool) : WireFrame :=
  let n := payloadLength (headerKind (sampledByte bits 0))
  { header := sampledByte bits 0
    payload := (List.range n).map (fun i => sampledByte bits (i + 1))
    check := sampledByte bits (n + 1) }

/-- Header byte of the bits sampled so far, if complete (R210). -/
def sampledHeader (bits : List Bool) : Option Byte :=
  if bits.length < 8 then none else some (sampledByte bits 0)

/-- The bits this station transmits. -/
def ownBits (s : State) : List Bool :=
  match s.link.hand with
  | some h => frameBits (sentFrame s h)
  | none => []

/-- Which bit of a frame comes after the sampled ones (R154). -/
inductive Place where
  | body | objection | veto | closing | past
  deriving DecidableEq, Repr

/-- The place of the next bit. -/
def placeOf (bits : List Bool) : Place :=
  match frameLength bits with
  | none => .body
  | some n =>
    if bits.length < n then .body
    else if bits.length = n then .objection
    else if bits.length = n + 1 then .veto
    else if bits.length = n + 2 then .closing
    else .past

/-! ### The bit engine (R148–R152, R155, R158–R160) -/

/-- The veto of this station at the veto slot (R89): for a message whose check it takes as good. -/
def vetoAtSlot (s : State) : Bool :=
  match s.link.assembly with
  | none => false
  | some f =>
    (decide (s.link.line = .sending) || frameGood f) &&
      (match frameMsg f with
        | some m => vetoDecision s m
        | none => false)

/-- LDA as this station places it in the low phase of the next bit (R151, R152, R155, R159, R160). -/
def placedLda (s : State) : Bool :=
  match placeOf s.link.bits, s.link.line with
  | .body, .sending => !((ownBits s).getD s.link.bits.length true)
  | .objection, _ => s.link.objection
  | .veto, _ => vetoAtSlot s
  | .closing, .sending => true
  | _, _ => false

/-- A fall of LCK in a frame: the low phase of the next bit begins. A transmitter pulls LCK (R150), a holding
station in the objection slot likewise, its stretch timer counting from here (R165; log 14); LDA is placed; a fall after the closing bit breaks the
frame (R164). -/
def lckFalls (s : State) : State :=
  let place := placeOf s.link.bits
  let l :=
    { s.link with
      outLck := decide (s.link.line = .sending) || (decide (place = .objection) && s.link.hold)
      outLda := placedLda s
      veto := if place = .veto then vetoAtSlot s else s.link.veto
      stretch := if place = .objection then s.link.stretch.map (fun _ => 0) else s.link.stretch
      half := 1
      inFrame := none }
  if place = .past then emit [.brokenFrame] s else setLink l s

/-- A transmitter placed 1 and samples 0 in header, payload or check (R155). -/
def losesBit (s : State) (sample : Bool) : Bool :=
  decide (s.link.line = .sending) && decide (placeOf s.link.bits = .body)
    && (ownBits s).getD s.link.bits.length true && !sample

/-- A rise of LCK in a frame: the bit is sampled. A transmitter that samples the closing bit releases LDA
(R152). -/
def lckRises (s : State) : State :=
  let sample := ldaHigh s
  let bits := s.link.bits ++ [sample]
  let l :=
    { s.link with
      bits := bits
      outLda := if placeOf s.link.bits = .closing then false else s.link.outLda
      half := 1
      inFrame := some 0 }
  emit
    ((if losesBit s sample then [.arbitrationLost] else [])
      ++ (if placeOf s.link.bits = .body ∧ placeOf bits = .objection then
          [.frameReceived (sampledFrame bits)] else []))
    (setLink l s)

/-- No edge of LCK in a frame: a transmitter counts its half-bit, then releases LCK at the end of its low
phase unless it holds, or pulls LCK to begin the next bit (R150, R152, R165). -/
def countHalf (s : State) : State :=
  let due := decide (s.params.rate.halfUs ≤ s.link.half + 1)
  let l := { s.link with half := s.link.half + 1 }
  if s.link.line = .sending then
    if lckHigh s then
      setLink (if due && decide (placeOf s.link.bits ≠ .past) then { l with outLck := true } else l) s
    else setLink (if due && !l.hold then { l with outLck := false } else l) s
  else s

/-- The command of a frame kind delivered at STOP. -/
def frameCommand : Nat → Instr
  | 0 => .cancelFrame
  | 1 => .recallFrame
  | 2 => .captureFrame
  | 3 => .handsetFrame
  | 4 => .toggleFrame
  | 5 => .tuttiFrame
  | 6 => .stageFrame
  | 7 => .setterFrame
  | 8 => .levelFrame
  | 9 => .announceFrame
  | _ => .stopWithoutDelivery

/-- What STOP after the closing bit brings, from the slots as sampled (R159–R161). -/
def stopCommand (s : State) (f : WireFrame) : Instr :=
  let n := 16 + 8 * payloadLength (headerKind f.header)
  if s.link.bits.getD n true = false then .frameNotAccepted .objected
  else if headerKind f.header = 2 ∧ s.link.bits.getD (n + 1) true = false then .frameNotAccepted .vetoed
  else if undelivered s f then .stopWithoutDelivery
  else frameCommand (headerKind f.header)

/-- LDA rises while LCK is high in a frame: STOP after the closing bit, a broken frame elsewhere (R161,
R164). -/
def stopEdge (s : State) : State :=
  match placeOf s.link.bits, s.link.assembly with
  | .past, some f => emit [stopCommand s f] s
  | _, _ => emit [.brokenFrame] s

/-- LDA falls while LCK is high in a frame: the transmitter's own START, or a broken frame (R152, R164). -/
def startEdge (s : State) : State :=
  if s.link.line = .sending ∧ s.link.bits = [] then countHalf s else emit [.brokenFrame] s

/-- One µs inside a frame. -/
def frameUs (s : State) : State :=
  if s.link.prevLck && !lckHigh s then lckFalls s
  else if !s.link.prevLck && lckHigh s then lckRises s
  else if lckHigh s && s.link.prevLda && !ldaHigh s then startEdge s
  else if lckHigh s && !s.link.prevLda && ldaHigh s then stopEdge s
  else countHalf s

/-- One µs in IDLE: a START, a disturbance, or the idle count (R149). -/
def idleUs (s : State) : State :=
  if s.link.prevLck && !lckHigh s then emit [.disturbance] s
  else if s.link.prevLck && lckHigh s && s.link.prevLda && !ldaHigh s then emit [.startReceiving] s
  else if lckHigh s && ldaHigh s then setLink { s.link with idleUs := s.link.idleUs + 1 } s
  else s

/-- One µs in SEEKING: a STOP, or the count of high time (R148). -/
def seekingUs (s : State) : State :=
  if s.link.prevLck && lckHigh s && !s.link.prevLda && ldaHigh s then emit [.synchronise] s
  else if lckHigh s && ldaHigh s && s.link.prevLck && s.link.prevLda then
    emit (if 4 * s.params.rate.bitUs ≤ s.link.idleUs + 1 then [.synchronise] else [])
      (setLink { s.link with idleUs := s.link.idleUs + 1 } s)
  else setLink { s.link with idleUs := 0 } s

/-- The levels are kept for the next µs; the stall timer returns to 0 while LCK is high or this station pulls
it (R167). -/
def keepLevels (lck lda : Bool) (s : State) : State :=
  setLink
    { s.link with
      prevLck := lck
      prevLda := lda
      stall := if lck || s.link.outLck then 0 else s.link.stall
      stalled := s.link.stalled && !lck } s

/-- One µs of the Link Controller. -/
def linkUs (s : State) : State :=
  match s.link.line with
  | .off => s
  | .seeking => keepLevels (lckHigh s) (ldaHigh s) (seekingUs s)
  | .idle => keepLevels (lckHigh s) (ldaHigh s) (idleUs s)
  | .receiving => keepLevels (lckHigh s) (ldaHigh s) (frameUs s)
  | .sending => keepLevels (lckHigh s) (ldaHigh s) (frameUs s)

/-- One µs of the relay port (R18). -/
def relayUs (s : State) : State :=
  match s.relay.shift with
  | none => s
  | some _ =>
    emit (if Config.shiftUs ≤ s.relay.shiftUs + 1 then [.shiftEnd] else [])
      { s with relay := { s.relay with shiftUs := s.relay.shiftUs + 1 } }

/-- One µs of a reply: a byte lasts 10 bits at 38400 bit/s (R226; log 25). -/
def replyUs (s : State) : State :=
  if s.port.state = .replying then
    emit (if s.port.reply.length * 100000 ≤ (s.port.replyUs + 1) * 384 then [.replyEnd] else [])
      { s with port := { s.port with replyUs := s.port.replyUs + 1 } }
  else s

/-! ### The 1 ms tick -/

/-- A timer counts one tick. -/
def countUp (t : Option Nat) : Option Nat := t.map (fun n => n + 1)

/-- A running timer reaches its end at this tick. -/
def reaches (t : Option Nat) (n : Nat) : Bool :=
  match t with
  | some k => decide (n ≤ k + 1)
  | none => false

/-- A command, where a condition holds. -/
def due (b : Bool) (c : Instr) : List Instr := if b then [c] else []

/-- Timers outside the drive: sequence end, indicators, STAGE interval, link, service gap (R108, R132, R162,
R164, R165, R226, R236). The sequence end comes before the flash timers, so that SEQ END goes from dark to its
end (R236). -/
def timersTick (s : State) : State :=
  emit
    (due (reaches s.pistons.seqEnd Config.sequenceEndMs) .sequenceEndTimerExpiry
      ++ due (reaches (s.flashes.cresc.map (fun f => f.ms)) Config.flashMs) (.flashTimerExpiry .cresc)
      ++ due (reaches (s.flashes.seqEnd.map (fun f => f.ms)) Config.flashMs) (.flashTimerExpiry .seqEnd)
      ++ due (reaches s.cresc.interval Config.intervalMs) .intervalTimerExpiry
      ++ due (reaches s.link.linkFault Config.linkFaultMs) .linkFaultTimerExpiry
      ++ due (reaches s.link.stretch Config.stretchMs) .stretchExpiry
      ++ due (reaches s.link.inFrame Config.inFrameMs) .brokenFrame
      ++ due (reaches s.port.gap Config.gapMs
          && (decide (s.port.state = .assembling) || decide (s.port.state = .discarding))) .gapTimerExpiry)
    { s with
      flashes :=
        { cresc := s.flashes.cresc.map (fun f => { f with ms := f.ms + 1 })
          seqEnd := s.flashes.seqEnd.map (fun f => { f with ms := f.ms + 1 }) }
      pistons := { s.pistons with seqEnd := countUp s.pistons.seqEnd }
      cresc := { s.cresc with interval := countUp s.cresc.interval }
      link := { s.link with
        linkFault := countUp s.link.linkFault
        stretch := countUp s.link.stretch
        inFrame := countUp s.link.inFrame }
      port := { s.port with gap := countUp s.port.gap } }

/-- The stall timer (R167). -/
def stallTick (s : State) : State :=
  if decide (s.link.line ≠ .off) && !lckHigh s && !s.link.outLck && !s.link.stalled then
    emit (due (decide (Config.stallMs ≤ s.link.stall + 1)) (.linkStall (sampledHeader s.link.bits)))
      (setLink { s.link with stall := s.link.stall + 1 } s)
  else s

/-- The supply sample (R62). -/
def supplyTick (s : State) : State :=
  match s.drive.supply, s.pins.supply with
  | .unsampled, high => emit [.supplyFirstSample high] s
  | .present, false => emit [.supplyLoss] s
  | .lost, true => emit [.supplyWaitStart] s
  | .waiting, false => emit [.supplyWaitAbandon] s
  | .waiting, true =>
    emit (due (reaches s.drive.restore Config.restoreMs) .restore)
      { s with drive := { s.drive with restore := countUp s.drive.restore } }
  | _, _ => s

/-- A debounce count after one sample (R3). -/
def nextCount (count : Nat) (same : Bool) : Nat := if same then 0 else count + 1

/-- The contact samples (R3). -/
def contactsTick (s : State) : State :=
  emit
    ((List.finRange 48).filterMap (fun c =>
      if s.pins.contacts.has c ≠ s.channels[c].contact ∧ s.params.contactTdb ≤ s.channels[c].count + 1 then
        some (.debouncedChange c (s.pins.contacts.has c))
      else none))
    { s with
      channels := Vector.ofFn (fun c =>
        { s.channels[c] with
          count := nextCount s.channels[c].count
            (decide (s.pins.contacts.has c = s.channels[c].contact)) }) }

/-- The piston samples (R123). -/
def pistonsTick (s : State) : State :=
  emit
    ((List.finRange 32).filterMap (fun i =>
      if s.pins.pistons.getLsbD i.val ≠ s.pistons.inputs[i].pressed
          ∧ s.params.pistonTdb ≤ s.pistons.inputs[i].count + 1 then
        some (if s.pins.pistons.getLsbD i.val then .pistonPress i else .pistonRelease i)
      else none))
    { s with
      pistons := { s.pistons with
        inputs := Vector.ofFn (fun i =>
          { s.pistons.inputs[i] with
            count := nextCount s.pistons.inputs[i].count
              (decide (s.pins.pistons.getLsbD i.val = s.pistons.inputs[i].pressed)) }) } }

/-- The shoe's converter: a conversion every 2 ms (R96). -/
def shoeTick (s : State) : State :=
  if Config.shoeMs ≤ s.time.shoeMs + 1 then
    emit [.sampleEvent s.pins.shoe] { s with time := { s.time with shoeMs := 0 } }
  else { s with time := { s.time with shoeMs := s.time.shoeMs + 1 } }

/-- A drive state after one tick of its timers (R54, R55, R57). -/
def driveTick : Drive → Drive
  | .energized dir a pulse od => .energized dir a (pulse + 1) (countUp od)
  | .settling dir a settle => .settling dir a (settle + 1)
  | d => d

/-- What a drive timer brings at this tick (R55, R57). -/
def driveDue (p : Params) (c : Chan) : Drive → Option Instr
  | .energized _ _ pulse od =>
    if p.tmax ≤ pulse + 1 ∨ reaches od p.tover = true then some (.pulseEnd c) else none
  | .settling _ _ settle => if p.tsettle ≤ settle + 1 then some (.verify c) else none
  | _ => none

/-- The pulse, overdrive and settle timers. -/
def drivesTick (s : State) : State :=
  emit ((List.finRange 48).filterMap (fun c => driveDue s.params c s.channels[c].drive))
    { s with
      channels := Vector.ofFn (fun c =>
        { s.channels[c] with drive := driveTick s.channels[c].drive }) }

/-- The status poll of a write in flight: a ready report is taken before the write timer's end (R83, R84). -/
def storeTick (s : State) : State :=
  match s.store.writeTimer with
  | none => s
  | some _ =>
    emit
      (if s.pins.memReady then [.writeComplete]
        else due (reaches s.store.writeTimer Config.writeMs) .storeFault)
      { s with store := { s.store with writeTimer := countUp s.store.writeTimer } }

/-- The start's two timers (R220, R221, R222). -/
def startTick (s : State) : State :=
  emit
    (due (s.start.poll.isSome && (s.pins.memReady || reaches s.start.poll Config.writeMs)) .loadEvent
      ++ due (reaches s.start.wait (s.params.contactTdb + 1)) .startUpCompletion)
    { s with start := { s.start with poll := countUp s.start.poll, wait := countUp s.start.wait } }

/-- The samplers, which run from the load event on (R221). -/
def samplersTick (s : State) : State :=
  let s1 := if sampling s then contactsTick (supplyTick s) else s
  let s2 := if pistonsSampled s then pistonsTick s1 else s1
  if shoeSampled s then shoeTick s2 else s2

/-- One tick of 1 ms: the time tag counts (R203), then the timers and samplers. R203 does not place the count among
the other events of the tick: it comes first, so that they are stamped with the new count. DESIGN CHOICE (log 5). -/
def msTick (s : State) : State :=
  startTick
    (storeTick
      (drivesTick
        (samplersTick
          (stallTick
            (timersTick { s with journal := { s.journal with timeTag := s.journal.timeTag + 1 } })))))

/-- One µs of the blocks that run on the 1 µs time base. -/
def usStep (s : State) : State := replyUs (relayUs (linkUs s))

/-- One step of time: 1 µs, or the tick that is due after 1000 of them. The tick is a step of its own, so that the
events of the µs before it have been taken when the timers are looked at: a timer that such an event restarted
does not end at this tick. -/
def clockStep (s : State) : State :=
  let s1 := { s with start := { s.start with atReset := false } }
  if s.time.us < Config.usPerMs then usStep { s1 with time := { s.time with us := s.time.us + 1 } }
  else msTick { s1 with time := { s.time with us := 0 } }

/-- What the station does while no command waits (log 2). -/
def idle (s : State) : State :=
  match nextInternal s with
  | some c => emit [c] s
  | none => clockStep s

end Sys2Proof.Machine
end

