-- ==== Sys2Proof/Machine/Channels.lean ====
section
/-! DEFINITION. Meanings of the Channel Unit's commands: DEBOUNCED_CHANGE and SHIFT_END. -/

namespace Sys2Proof.Machine

/-- The record after a debounced change that touches the contact alone (R3). -/
def Channel.withContact (x : Channel) (on : Bool) : Channel := { x with contact := on, count := 0 }

/-- PLAIN follow: contact and registered state take the new value (R6). -/
def Channel.follow (x : Channel) (on : Bool) : Channel := { x.withContact on with registered := on }

/-- A hand move (R7): the registered state takes the contact; a queued move is removed and counted as
yielded, with the closing check; the speaking set is recomposed; a HANDSET is handed over (in RUN). -/
def handMove (c : Chan) (on : Bool) (s : State) : State :=
  let x := s.channels[c]
  let s1 := setChannel c { x.follow on with drive := .idle } s
  let s2 :=
    if x.drive = .queued then closingCheck (countDriving Counts.addYielded (removeMove c s1)) else s1
  handOver (.handset x.stop on) (recompose s2)

/-- A LIT press (R10): the registered state is inverted, the speaking set recomposed, a HANDSET handed over
(in RUN). -/
def litPress (c : Chan) (s : State) : State :=
  let x := s.channels[c]
  handOver (.handset x.stop (!x.registered))
    (recompose (setChannel c { x.withContact true with registered := !x.registered } s))

/-- Drive state of an ENERGIZED channel at a debounced change to `on`: the first change to the pulse's
direction starts the overdrive, or ends the pulse where Tover is 0 (R54, R55). -/
def overdriven (tover : Nat) (on : Bool) : Drive → Drive
  | .energized dir a pulse none =>
    if on = dir then
      if tover = 0 then .settling dir a 0 else .energized dir a pulse (some 0)
    else .energized dir a pulse none
  | d => d

/-- A debounced change of a MOVED channel in RUN or LISTEN, by its drive state (R5, R7, R8, R54). -/
def movedChange (c : Chan) (on : Bool) (s : State) : State :=
  let x := s.channels[c]
  match x.drive with
  | .idle => handMove c on s
  | .queued => handMove c on s
  | d => setChannel c { x.withContact on with drive := overdriven s.params.tover on d } s

/-- A debounced change in RUN or LISTEN, by the channel's type (R5). -/
def workingChange (c : Chan) (on : Bool) (s : State) : State :=
  let x := s.channels[c]
  match x.type with
  | .plain => recompose (setChannel c (x.follow on) s)
  | .moved => movedChange c on s
  | .lit => if on then litPress c s else setChannel c (x.withContact on) s

/-- A debounced change, by the station mode (R5). In STARTING only the contact and the PLAIN follow. -/
def debouncedChange (c : Chan) (on : Bool) (s : State) : State :=
  let x := s.channels[c]
  match s.view.mode with
  | .starting => setChannel c (if x.type = .plain then x.follow on else x.withContact on) s
  | .safe => recompose (setChannel c (x.follow on) s)
  | _ => workingChange c on s

/-- DEBOUNCED_CHANGE (R5). No change, no event: before the samplers run (R4), or to the value the contact
already has (R3), the state stays as it is. -/
def execDebouncedChange (c : Chan) (on : Bool) (s : State) : Result :=
  .next (if sampling s && decide (s.channels[c].contact ≠ on) then debouncedChange c on s else s)

/-- The relay port at the end of a shift (R18, R19): the shift set is latched; a flagged further shift starts
unless the speaking set equals the set just latched. -/
def Relay.shiftEnd (r : Relay) : Relay :=
  match r.shift with
  | none => r
  | some x =>
    { r with
      pipes := x
      lastLatched := some x
      further := false
      shift := if r.further && decide (r.speaking ≠ x) then some r.speaking else none
      shiftUs := 0 }

/-- SHIFT_END (R19). -/
def execShiftEnd (s : State) : Result := .next { s with relay := s.relay.shiftEnd }

end Sys2Proof.Machine
end

