-- ==== Sys2Proof/Machine/Dispatch.lean ====
section
/-! DEFINITION. The meaning of each command: one arm per constructor. -/

namespace Sys2Proof.Machine

def exec (i : Instr) (s : State) : Host.Outcome State Fault Refusal :=
  match i with
  | .coldReset => Sys2Proof.Machine.execColdReset s
  | .loadEvent => Sys2Proof.Machine.execLoadEvent s
  | .startUpCompletion => Sys2Proof.Machine.execStartUpCompletion s
  | .debouncedChange c on => Sys2Proof.Machine.execDebouncedChange c on s
  | .shiftEnd => Sys2Proof.Machine.execShiftEnd s
  | .pistonPress n => Sys2Proof.Machine.execPistonPress n s
  | .pistonRelease n => Sys2Proof.Machine.execPistonRelease n s
  | .sequenceEndTimerExpiry => Sys2Proof.Machine.execSequenceEndTimerExpiry s
  | .sampleEvent r => Sys2Proof.Machine.execSampleEvent r s
  | .intervalTimerExpiry => Sys2Proof.Machine.execIntervalTimerExpiry s
  | .supplyFirstSample high => Sys2Proof.Machine.execSupplyFirstSample high s
  | .supplyLoss => Sys2Proof.Machine.execSupplyLoss s
  | .supplyWaitStart => Sys2Proof.Machine.execSupplyWaitStart s
  | .supplyWaitAbandon => Sys2Proof.Machine.execSupplyWaitAbandon s
  | .restore => Sys2Proof.Machine.execRestore s
  | .pulseStart => Sys2Proof.Machine.execPulseStart s
  | .pulseEnd c => Sys2Proof.Machine.execPulseEnd c s
  | .verify c => Sys2Proof.Machine.execVerify c s
  | .takeUpHead => Sys2Proof.Machine.execTakeUpHead s
  | .storingCaptureRetake => Sys2Proof.Machine.execStoringCaptureRetake s
  | .fetchServe => Sys2Proof.Machine.execFetchServe s
  | .fetchResult => Sys2Proof.Machine.execFetchResult s
  | .writeIssue => Sys2Proof.Machine.execWriteIssue s
  | .writeComplete => Sys2Proof.Machine.execWriteComplete s
  | .storeFault => Sys2Proof.Machine.execStoreFault s
  | .synchronise => Sys2Proof.Machine.execSynchronise s
  | .disturbance => Sys2Proof.Machine.execDisturbance s
  | .frameStart => Sys2Proof.Machine.execFrameStart s
  | .frameReceived f => Sys2Proof.Machine.execFrameReceived f s
  | .stretchExpiry => Sys2Proof.Machine.execStretchExpiry s
  | .frameNotAccepted cause => Sys2Proof.Machine.execFrameNotAccepted cause s
  | .linkFaultTimerExpiry => Sys2Proof.Machine.execLinkFaultTimerExpiry s
  | .brokenFrame => Sys2Proof.Machine.execBrokenFrame s
  | .linkStall header => Sys2Proof.Machine.execLinkStall header s
  | .cancelFrame => Sys2Proof.Machine.execCancelFrame s
  | .recallFrame => Sys2Proof.Machine.execRecallFrame s
  | .captureFrame => Sys2Proof.Machine.execCaptureFrame s
  | .handsetFrame => Sys2Proof.Machine.execHandsetFrame s
  | .toggleFrame => Sys2Proof.Machine.execToggleFrame s
  | .tuttiFrame => Sys2Proof.Machine.execTuttiFrame s
  | .stageFrame => Sys2Proof.Machine.execStageFrame s
  | .setterFrame => Sys2Proof.Machine.execSetterFrame s
  | .levelFrame => Sys2Proof.Machine.execLevelFrame s
  | .announceFrame => Sys2Proof.Machine.execAnnounceFrame s
  | .serviceByteArrival b framed => Sys2Proof.Machine.execServiceByteArrival b framed s
  | .gapTimerExpiry => Sys2Proof.Machine.execGapTimerExpiry s
  | .ident => Sys2Proof.Machine.execIdent s
  | .status group => Sys2Proof.Machine.execStatus group s
  | .channels => Sys2Proof.Machine.execChannels s
  | .journal k => Sys2Proof.Machine.execJournal k s
  | .slotRead level slot => Sys2Proof.Machine.execSlotRead level slot s
  | .slotWrite level slot data => Sys2Proof.Machine.execSlotWrite level slot data s
  | .imageRead offset length => Sys2Proof.Machine.execImageRead offset length s
  | .imageWrite offset data => Sys2Proof.Machine.execImageWrite offset data s
  | .serviceLock level state => Sys2Proof.Machine.execServiceLock level state s
  | .restart => Sys2Proof.Machine.execRestart s
  | .replyEnd => Sys2Proof.Machine.execReplyEnd s
  | .flashTimerExpiry f => Sys2Proof.Machine.execFlashTimerExpiry f s
  | .startReceiving => Sys2Proof.Machine.execStartReceiving s
  | .arbitrationLost => Sys2Proof.Machine.execArbitrationLost s
  | .stopWithoutDelivery => Sys2Proof.Machine.execStopWithoutDelivery s

end Sys2Proof.Machine
end

