-- ==== Sys2Proof/Safety.lean ====
section
/-! DEFINITION. What holds at every station at all times: the laws of the device and the relations its chapters
state between its registers, queues and records, each as a predicate of one state. -/

namespace Sys2Proof.Machine

/-! ### Words of the statements -/

/-- Every channel record but one is as before. -/
def OthersUnchanged (c : Chan) (s t : State) : Prop :=
  ∀ d : Chan, d ≠ c → t.channels[d] = s.channels[d]

/-- The journal has taken one FAULT record of this code and parameter and nothing else (R209). -/
def FaultJournaled (code : FaultCode) (p0 p1 p2 p3 : Byte) (s t : State) : Prop :=
  t.journal = s.journal.push (faultRecord code p0 p1 p2 p3 s)

/-- The journal after FAULT records of these subjects have been written one after another in one event (R203,
R209). -/
def journalAfter (xs : List Subject) (s : State) : Journal :=
  xs.foldl
    (fun j x => j.push {
      number := j.number, subject := x, origin := s.start.station, state := .closed, outcome := none,
      counts := Counts.zero, tOpen := j.timeTag, tClose := some j.timeTag }) s.journal

/-- A record as it stands once closed in this state and with this outcome, at this time tag (R204). -/
def Record.closedAs (r : Record) (st : RecState) (outcome : Option FaultCode) (tag : Word) : Record :=
  { r with state := st, outcome := outcome, tClose := some tag }

/-- The record that a reference names, while it is OPEN (R204, R206). -/
def openRecordAt (s : State) (ref : Option (Fin 32)) (p : Fin 32) (r : Record) : Prop :=
  ref = some p ∧ s.journal.records[p] = some r ∧ r.state = .opened

/-- The pending-move queue after a plan has treated the MOVED channels of an affected set, in ascending order
(R34). -/
def queueAfterPlan (s : State) (aff : ChanSet) (target : Chan → Bool) : List Move :=
  (List.finRange 48).foldl
    (fun q c =>
      if aff.has c && decide (s.channels[c].type = .moved) then plannedQueue c s.channels[c] (target c) q else q)
    s.drive.queue

/-- The counts of a drive operation after its plan: what is outstanding in and outside its affected set (R36,
R37). -/
def countsAfterPlan (aff : ChanSet) (t : State) : Counts :=
  { Counts.zero with
    planned := BitVec.ofNat 16 (plannedCount aff t)
    carried := BitVec.ofNat 16 (carriedCount aff t) }

/-- State `t` is state `s` after the plan of entry `e` with these targets (R34–R37): the channels of the affected
set treated, the speaking set recomposed, the operation that was DRIVING closed SUPERSEDED, and `e` DRIVING with
its counts, or CLOSED where nothing is outstanding. -/
def Planned (e : OpEntry) (target : Chan → Bool) (s t : State) : Prop :=
  (∀ c : Chan, e.affected.has c = false → t.channels[c] = s.channels[c])
    ∧ (∀ c : Chan, e.affected.has c = true →
        t.channels[c] = { s.channels[c] with
          registered := target c
          fault := false
          drive := if s.channels[c].type = .moved then plannedDrive s.channels[c] (target c)
            else s.channels[c].drive })
    ∧ t.drive.queue = queueAfterPlan s e.affected target
    ∧ t.relay = s.relay.compose (composedSet t)
    ∧ (t.ops.driving = if anyOutstanding t then
        some {
          body := e.body
          origin := e.origin
          record := e.record
          counts := countsAfterPlan e.affected t }
      else none)
    ∧ t.journal = { s.journal with records := t.journal.records }
    ∧ (∀ d p r, s.ops.driving = some d → e.record ≠ some p → openRecordAt s d.record p r →
        t.journal.records[p] = some (r.closedAs .superseded none s.journal.timeTag))
    ∧ (∀ p r, (∀ d, s.ops.driving = some d → d.record ≠ some p) → openRecordAt s e.record p r →
        t.journal.records[p] = some (if anyOutstanding t then { r with counts := countsAfterPlan e.affected t }
          else r.closedAs .closed none s.journal.timeTag))
    ∧ ∀ p : Fin 32, e.record ≠ some p → (∀ d, s.ops.driving = some d → d.record ≠ some p) →
        t.journal.records[p] = s.journal.records[p]

/-- The entries of an operation list without their record references. -/
def unreferenced (l : List OpEntry) : List OpEntry := l.map (fun e => { e with record := none })

/-- The arguments of a service command are in their ranges (R228). -/
def ServiceCmd.legal : ServiceCmd → Bool
  | .slotWrite _ _ data => decide (data.length = 8)
  | .imageRead offset length => legalRange offset length
  | .imageWrite offset data => legalRange offset data.length
  | _ => true

/-- The frame on the link is accepted and delivered here with this mark, as this message: whole, with a good
check at a receiver, and neither objected nor vetoed by this station (R157, R161). -/
def Accepted (s : State) (mark : Mark) (f : WireFrame) (m : Msg) : Prop :=
  s.link.assembly = some f ∧ frameMsg f = some m ∧ s.link.objection = false ∧ s.link.veto = false
    ∧ (mark = .received ∧ s.link.line = .receiving ∧ frameGood f = true
      ∨ mark = .transmitted ∧ s.link.line = .sending)

/-- The delivery makes no new station and is no duplicate's frame (R190, R191, R195). -/
def FromListedStation (s : State) (mark : Mark) (f : WireFrame) (m : Msg) : Prop :=
  mark = .received →
    headerOrigin f.header ≠ s.start.station ∧ s.view.roster[headerOrigin f.header].isSome = true
      ∧ isFresh m = false

/-- The station after STOP and the first step of a delivery: the link IDLE, a transmitter's frame out of hand,
the origin's roster entry and READY up to date (R161, R177). -/
def heard (s : State) (mark : Mark) (f : WireFrame) (m : Msg) : State :=
  judgeReady (hear mark (headerOrigin f.header) m (stopLink mark s))

/-- The service port can take this command (R226, R227). -/
def PortFree (body : List Byte) (s : State) : Prop := portTakes (withSum body) s = true

/-- The port with its assembly emptied, a command having ended (R226). -/
def Port.judged (p : Port) : Port := { p with assembly := [], bad := false, overlong := false }

/-- The station as a reply begins (R229). -/
def answered (st : Status) (data : List Byte) (s : State) : State :=
  { s with port := { s.port.judged with
      state := .replying
      reply := replyBytes st data
      replyUs := 0 } }

/-- The store after the end of a write that leaves these entries, head first: the head is issued in that event, and with
none left the memory is IDLE (R82–R84). An entry already in flight behind another is in no state that a run reaches
(`OneWriteInFlight`); it is not issued again. -/
def Store.headIssued (left : List WriteEntry) (st : Store) : Store :=
  match left with
  | [] => { st with queue := [], mem := .idle, writeTimer := none }
  | e :: more =>
    if e.inFlight then { st with queue := left, mem := .idle, writeTimer := none }
    else { st with queue := { e with inFlight := true } :: more, mem := .busy, writeTimer := some 0 }

/-- The frame that a piston function hands over in RUN (R129, R133, R134, R135, R137): none where the press has
another act. -/
def pistonFrame (v : View) : PistonFn → Option TxFrame
  | .recall slot => some (if v.setter then .capture v.level slot else .recall v.level slot)
  | .set => some (.setter true)
  | .cancelAll => some (.cancel .console)
  | .cancelDiv d => some (.cancel (.division d))
  | .toggle stop => some (.toggle stop .flip)
  | .levelUp => if v.level.val < 255 then some (.level (v.level + 1)) else none
  | .levelDown => if 0 < v.level.val then some (.level (v.level - 1)) else none
  | _ => none

/-! ### Laws of the device -/

/-- Every queue, list and count within its capacity (R22, R38, R79, R97, R163, R168, R201, R226). -/
def WithinCapacities (s : State) : Prop :=
  s.ops.list.length ≤ 8
    ∧ s.store.queue.length ≤ 8
    ∧ s.link.txq.length ≤ 16
    ∧ s.cresc.ring.length ≤ 4
    ∧ s.port.assembly.length ≤ 72
    ∧ s.journal.held ≤ 32
    ∧ (∀ h, s.link.hand = some h → h.attempts < 3)
    ∧ (∀ d, s.ops.driving = some d → d.counts.faultList.length ≤ 4)

/-- An address that the part writes: image, lock table and calibration, or slot records (R74). -/
def storeAddress (a : Nat) : Bool := decide (a < 0x424) || (decide (0x40000 ≤ a) && decide (a < 0x80000))

/-- The bytes of a write lie in one region (R79). -/
def WriteEntry.fits (e : WriteEntry) : Bool :=
  match e.target with
  | .slot _ _ => decide (e.data.length = 8)
  | .lockByte _ => decide (e.data.length = 1)
  | .calibration => decide (e.data.length = 4)
  | .image _ first len => decide (e.data.length = len) && decide (first.val + len ≤ 256)

/-- The memory is canonical and lists no address that the part never writes; every waiting write stays inside
its region (R74, R79). -/
def StoreInRegions (s : State) : Prop :=
  Memory.wf s.memory = true
    ∧ (∀ c ∈ s.memory, storeAddress c.1 = true)
    ∧ ∀ e ∈ s.store.queue, e.fits = true

/-- In STARTING and SAFE there is no operation and no move (R24, R69, R70). -/
def AtRest (s : State) : Prop :=
  s.view.mode ≠ .run → s.view.mode ≠ .listen →
    s.ops.list = [] ∧ s.ops.driving = none ∧ s.drive.queue = [] ∧ ∀ c : Chan, s.channels[c].drive = .idle

/-- The channels of the pending-move queue, head first. -/
def queuedChans (s : State) : List Chan := s.drive.queue.map (fun m => m.chan)

/-- One queue entry for each QUEUED channel and no other, each channel that is not IDLE of type MOVED (R49,
R51). -/
def QueueMatchesChannels (s : State) : Prop :=
  (queuedChans s).Nodup
    ∧ (∀ c : Chan, s.channels[c].drive = .queued ↔ c ∈ queuedChans s)
    ∧ ∀ c : Chan, s.channels[c].drive ≠ .idle → s.channels[c].type = .moved

/-- A queued move is toward the registered state and away from the contact; a held move is toward the
registered state (R49, R63, R64). -/
def MovesTowardTarget (s : State) : Prop :=
  (∀ m ∈ s.drive.queue, s.channels[m.chan].registered = m.dir ∧ s.channels[m.chan].contact ≠ m.dir)
    ∧ ∀ (c : Chan) (dir : Bool) (a : Attempt),
        s.channels[c].drive = .held dir a → s.channels[c].registered = dir

/-- Energized coils and held moves within P, no coil energized without supply, no move held with it (R51, R63,
R65). -/
def WithinDriveLimit (s : State) : Prop :=
  energizedCount s + heldCount s ≤ s.params.p
    ∧ (s.drive.supply ≠ .present → energizedCount s = 0)
    ∧ (s.drive.supply = .present ∨ s.drive.supply = .unsampled → heldCount s = 0)

/-- Some operation is DRIVING exactly while a channel is outstanding (R36, R39, R67). -/
def DrivingWhileOutstanding (s : State) : Prop := s.ops.driving.isSome = anyOutstanding s

/-- The law of the drive: the relations above together, which each command keeps only together. -/
def DriveLaw (s : State) : Prop :=
  AtRest s ∧ QueueMatchesChannels s ∧ MovesTowardTarget s ∧ WithinDriveLimit s
    ∧ DrivingWhileOutstanding s

/-- One write in flight at most, and it is the head; the memory is then BUSY and the write timer runs; no two
waiting writes have one target; in STARTING nothing is queued and nothing listed (R79, R82, R93). -/
def OneWriteInFlight (s : State) : Prop :=
  (∀ e ∈ s.store.queue.tail, e.inFlight = false)
    ∧ ((∃ e, s.store.queue.head? = some e ∧ e.inFlight = true) ↔ s.store.writeTimer.isSome = true)
    ∧ (s.store.writeTimer.isSome = true → s.store.mem = .busy)
    ∧ ((s.store.queue.filter (fun e => !e.inFlight)).map (fun e => e.target)).Nodup
    ∧ (s.view.mode = .starting → s.store.queue = [] ∧ s.ops.list = [])

/-- Outside RUN the station drives neither line and has nothing to send; in STARTING its line state is OFF
(R145, R147, R172). -/
def SilentOutsideRun (s : State) : Prop :=
  (s.view.mode ≠ .run →
      s.link.outLck = false ∧ s.link.outLda = false ∧ s.link.line ≠ .sending ∧ s.link.objection = false
        ∧ s.link.hold = false ∧ s.link.veto = false ∧ s.link.txq = [] ∧ s.link.hand = none)
    ∧ (s.view.mode = .starting → s.link.line = .off)

/-- At most one transmit-queue entry of each class (R168). -/
def OneEntryPerClass (s : State) : Prop := (s.link.txq.map TxFrame.cls).Nodup

/-- The journal fills its positions in turn: the first `held` hold a record, the others none, and while it is not
full the next record goes into the first free one (R201). -/
def JournalInTurn (s : State) : Prop :=
  s.journal.held ≤ 32
    ∧ (s.journal.held < 32 → s.journal.next.val = s.journal.held)
    ∧ ∀ i : Fin 32, s.journal.records[i].isSome = decide (i.val < s.journal.held)

/-- The record references: of the listed operations, the DRIVING operation and the captures awaiting their
write (R206). -/
def recordRefs (s : State) : List (Fin 32) :=
  s.ops.list.filterMap (fun e => e.record)
    ++ (s.ops.driving.bind (fun d => d.record)).toList
    ++ s.store.queue.filterMap (fun e => e.capture)

/-- Each reference names a record of its own, and that record is OPEN (R204, R206, R208). -/
def ReferencesOpen (s : State) : Prop :=
  (recordRefs s).Nodup
    ∧ ∀ p ∈ recordRefs s, ∃ r, s.journal.records[p] = some r ∧ r.state = .opened

/-- The registered state of a PLAIN channel equals its contact, and in SAFE every channel is PLAIN (R2, R6). -/
def PlainFollowsContact (s : State) : Prop :=
  (∀ c : Chan, s.channels[c].type = .plain → s.channels[c].registered = s.channels[c].contact)
    ∧ (s.start.poll.isSome = true ∨ s.start.safe = true → ∀ c : Chan, s.channels[c].type = .plain)
    ∧ (s.view.mode = .safe → s.start.safe = true)

/-- The speaking set is the one R16 gives from its inputs, once the station has left STARTING (R16, R17). -/
def SpeakingIsComposed (s : State) : Prop :=
  s.view.mode ≠ .starting → s.relay.speaking = composedSet s

/-- The relay port shifts or has latched the newest set, once the station has left STARTING (R18, R19, R20): no
set is left unsent. -/
def RelayCatchesUp (s : State) : Prop :=
  s.view.mode ≠ .starting →
    match s.relay.shift with
    | some x => s.relay.speaking = x ∨ s.relay.further = true
    | none => s.relay.lastLatched = some s.relay.speaking

/-- In STARTING no frame reaches the station and nothing is added to its registered stops (R120, R147, R199). -/
def StartingUnheard (s : State) : Prop :=
  s.view.mode = .starting → s.link.line = .off ∧ s.view.tutti = false ∧ s.view.stage = 0

/-- The law of the sound: the relations above together, which each command keeps only together. -/
def SoundLaw (s : State) : Prop :=
  PlainFollowsContact s ∧ StartingUnheard s ∧ SpeakingIsComposed s ∧ RelayCatchesUp s

end Sys2Proof.Machine
end

