-- ==== Sys2Proof/Certificates/Slice0/Obligations.lean ====
section
/-! DEFINITION. The statements for the provers. A statement about a command says which next state it answers:
`t = { s with a := t.a, … }` says that every part of the state but the named ones is as before, and the
clauses beside it say what the named parts become. -/

open Sys2Proof Sys2Proof.Machine

/-! ### The machine -/

/-- A step with command `c` in front is the meaning of `c` on the state with the queue's rest. -/
def Obligations.StepRunsTheFrontCommand : Prop :=
  ∀ (c : Instr) (rest : List Instr) (s : State), s.pending = c :: rest →
    step s = exec c { s with pending := rest }

/-- Every command answers a next state, and none touches the queue of waiting commands or the inputs of the
part (95_what_each_step_holds.md: each step is whole and changes the part's own state). That a command whose
conditions do not hold answers a next state too is the model's choice (log 1), and so is that the inputs change only
outside the step (log 3). -/
def Obligations.CommandsCompleteAndKeepQueueAndPins : Prop :=
  ∀ (c : Instr) (s : State), ∃ t, exec c s = .next t ∧ t.pending = s.pending ∧ t.pins = s.pins

/-- The state after reset meets every law of the device. -/
def Obligations.ResetMeetsEveryLaw : Prop :=
  WithinCapacities State.reset ∧ StoreInRegions State.reset ∧ DriveLaw State.reset
    ∧ OneWriteInFlight State.reset ∧ SilentOutsideRun State.reset ∧ OneEntryPerClass State.reset
    ∧ JournalInTurn State.reset ∧ ReferencesOpen State.reset ∧ SoundLaw State.reset

/-- R22, R38, R79, R97, R163, R168–R170, R201, R226: no step takes a queue, list or count past its capacity, and the
transmit queue holds at most one entry of each class. -/
def Obligations.StepKeepsCapacities : Prop :=
  ∀ s t : State, step s = .next t →
    (WithinCapacities s → WithinCapacities t) ∧ (OneEntryPerClass s → OneEntryPerClass t)

/-- R74, R79, R82: the memory stays canonical and no step writes outside the part's regions; one write is in flight
at a time, and it is the head. -/
def Obligations.StepKeepsStoreLaws : Prop :=
  ∀ s t : State, step s = .next t →
    (StoreInRegions s → StoreInRegions t) ∧ (OneWriteInFlight s → OneWriteInFlight t)

/-- R36, R39, R49, R51, R63–R67: at most P coils are energized, each of a MOVED channel; the pending-move queue
and the channels agree; an operation is DRIVING exactly while a channel is outstanding. -/
def Obligations.StepKeepsDriveLaw : Prop :=
  ∀ s t : State, DriveLaw s → step s = .next t → DriveLaw t

/-- R145, R172: a station outside RUN drives neither line and holds nothing to send. -/
def Obligations.StepKeepsSilenceOutsideRun : Prop :=
  ∀ s t : State, SilentOutsideRun s → step s = .next t → SilentOutsideRun t

/-- R201, R204, R206, R208: the journal fills its positions in turn, and every record reference names an OPEN
record of its own. -/
def Obligations.StepKeepsJournalReferences : Prop :=
  ∀ s t : State, JournalInTurn s → ReferencesOpen s → OneWriteInFlight s → step s = .next t →
    JournalInTurn t ∧ ReferencesOpen t

/-- R6, R16–R20: PLAIN channels follow their contacts, the speaking set is the one its inputs give, and the
relay port has sent it or is going to. -/
def Obligations.StepKeepsSoundLaw : Prop :=
  ∀ s t : State, SoundLaw s → step s = .next t → SoundLaw t

/-- R175, R195, R197, R220, R222, R224: the mode changes at the completion of a start, at the delivery in RUN of the
first received frame that bears this station's own number, at a cold reset, and outside STARTING at a RESTART, given
whole or ended by the gap timer, and at nothing else. -/
def Obligations.ModeChangesOnlyAsListed : Prop :=
  ∀ (c : Instr) (s t : State), exec c s = .next t →
    t.view.mode = s.view.mode
      ∨ (c = .startUpCompletion ∧ s.view.mode = .starting ∧ (t.view.mode = .run ∨ t.view.mode = .safe))
      ∨ (s.view.mode = .run ∧ t.view.mode = .listen ∧ s.view.duplicateSeen = false
          ∧ ∃ f m, Accepted s .received f m ∧ c = frameCommand m.kind ∧ headerOrigin f.header = s.start.station)
      ∨ (c = .coldReset ∧ t.view.mode = .starting)
      ∨ (s.view.mode ≠ .starting ∧ t.view.mode = .starting
          ∧ (c = .restart ∨ c = .gapTimerExpiry ∧ s.port.state = .assembling ∧ s.port.assembly = withSum [0x0A]))

/-- R72, R73, R83, R84: only the end of a write and a cold reset change the store memory, and only inside the
target of the write in flight. -/
def Obligations.MemoryChangesOnlyAtTheWriteInFlight : Prop :=
  ∀ (c : Instr) (s t : State), exec c s = .next t →
    (c ≠ .writeComplete → c ≠ .storeFault → c ≠ .coldReset → t.memory = s.memory)
      ∧ ∀ a : Nat,
          (∀ e, s.store.queue.head? = some e → e.inFlight = true →
            a < targetAddress e.target ∨ targetAddress e.target + e.data.length ≤ a) →
          memRead t.memory a = memRead s.memory a

/-! ### Formats -/

/-- R154, R156, R158, R178: what a station sends, a receiver takes as the same message from the same origin, whole
and with a good check; and the bits of a frame, most significant first, assemble to the frame again, whole at the
last check bit and not before. -/
def Obligations.FrameRoundTrip : Prop :=
  (∀ (m : Msg) (origin : Station),
    let f := wireFrame m.kind origin m.payload
    frameMsg f = some m ∧ headerKind f.header = m.kind ∧ headerOrigin f.header = origin
      ∧ frameGood f = true ∧ frameWholeLength f = true)
  ∧ ∀ f : WireFrame, frameWholeLength f = true →
    sampledFrame (frameBits f) = f ∧ frameLength (frameBits f) = some (frameBits f).length
      ∧ ∀ n < (frameBits f).length, placeOf ((frameBits f).take n) = .body

/-- R227, R228: a legal command with its sum byte is judged to be that command. -/
def Obligations.ServiceCommandRoundTrip : Prop :=
  ∀ c : ServiceCmd, c.legal = true → judgeCommand (withSum (commandBody c)) = some c

/-- R75–R77: a record formed of a pattern has 8 bytes, channel c at bit c mod 8 of byte c div 8, and is classified
WRITTEN with that pattern; a state byte of FFh is BLANK, 5Ah with a good check WRITTEN, anything else corrupt. -/
def Obligations.SlotRecordRoundTrip : Prop :=
  (∀ x : ChanSet, (writtenRecord x).length = 8 ∧ classify (writtenRecord x) = .written x
    ∧ ∀ c : Chan, ((writtenRecord x).getD (c.val / 8) 0).getLsbD (c.val % 8) = x.has c)
  ∧ ∀ r : List Byte, r.length = 8 →
    (classify r = .blank ↔ r[6]? = some 0xFF)
      ∧ (∀ x, classify r = .written x →
          r[6]? = some 0x5A ∧ r[7]? = some (crc8 (r.take 7)) ∧ patternBytes x = r.take 6)
      ∧ (classify r = .corrupt ↔
          r[6]? ≠ some 0xFF ∧ ¬(r[6]? = some 0x5A ∧ r[7]? = some (crc8 (r.take 7))))

/-! ### Resets and start-up -/

/-- R21, R46, R70, R94, R121, R144, R173, R199, R213, R220, R229, R236: a cold reset takes every block to its
reset values and reads the straps; the inputs, the relay's output register and the memory outside the
target of a write in flight stay. The model's choices in it: the image values before the load event (log 4), the
bytes left open by a cut write, counted in torn (log 7), the time base from 0 (log 9), the fields that serve the
link's bit clock (log 26), and READY false until first judged (log 28). -/
def Obligations.ColdResetResetsEveryBlock : Prop :=
  ∀ s : State, ∃ t, exec .coldReset s = .next t
    ∧ t = { State.reset with
        pending := s.pending
        pins := s.pins
        memory := t.memory
        start := Start.reset s.pins.straps s.pins.safeStrap
        relay := Relay.reset s.relay.pipes
        torn := t.torn }
    ∧ ∀ a : Nat,
        (∀ e, s.store.queue.head? = some e → e.inFlight = true →
          a < targetAddress e.target ∨ targetAddress e.target + e.data.length ≤ a) →
        memRead t.memory a = memRead s.memory a

/-- R4, R88, R92, R98, R209, R210, R214–R219, R221: the load event. With the SAFE strap tied or an image that fails
its check it settles SAFE: the memory is IDLE, the start-up wait runs, the contact Tdb is the image's where it passed
and 16 ms otherwise, the bit rate is 62.5 kbit/s, no role applies, the indicators are taken as none, and every other
value and table, the channel records, lock table and calibration are as before the event. Else it loads the image's
values and channel records, the lock table at a LEVEL-role station and the calibration at a SHOE-role station, and
journals one record for each clamped field, in ascending order of offset, and then one for a faulted calibration. (In
STARTING no operation is listed and no write queued: StepKeepsDriveLaw, StepKeepsStoreLaws. That the values of SAFE
stand with no table loaded over the model's values before the load event is its choice, log 4; that a memory not ready
by then fails its check is its reading, log 10; the offset of a clamped piston argument, log 22.) -/
def Obligations.LoadEventSettlesSafeOrLoadsTheImage : Prop :=
  (∀ s : State, s.view.mode = .starting → s.start.poll.isSome = true →
      (s.start.safeStrap = true ∨ judgeImage (readImage s) ≠ .passed) →
      exec .loadEvent s = .next { s with
        store := { s.store with mem := .idle }
        start := { s.start with
          outcome := some (judgeImage (readImage s))
          safe := true
          poll := none
          wait := some 0 }
        time := { s.time with shoeMs := 0 }
        params := { s.params with
          contactTdb := if judgeImage (readImage s) = .passed then contactTdbOf (readImage s) else 16
          rate := .slow
          levelRole := false
          shoeRole := false
          indicators := Vector.replicate 8 .none } })
  ∧ (∀ s : State, s.view.mode = .starting → s.start.poll.isSome = true →
      s.start.safeStrap = false → judgeImage (readImage s) = .passed →
      s.ops = Sequencer.reset → s.store.queue = [] →
      let img := readImage s
      let p := paramsOf img
      let c0 := calibrationWord (memRead s.memory 0x420) (memRead s.memory 0x421)
      let c1 := calibrationWord (memRead s.memory 0x422) (memRead s.memory 0x423)
      let clamped := (clampedFields img).map (fun x : Nat × Nat =>
        Subject.fault .configClamped (byteOf (x.1 / 256)) (byteOf x.1) (byteOf (x.2 / 256)) (byteOf x.2))
      let faulted := if p.shoeRole = true ∧ judgeCal c0 c1 = .faulted then
          [Subject.fault .shoeFault (byteOf (c0.val / 256)) (byteOf c0.val) (byteOf (c1.val / 256))
            (byteOf c1.val)]
        else []
      exec .loadEvent s = .next { s with
        params := p
        channels := Vector.ofFn (channelOf img)
        start := { s.start with outcome := some .passed, safe := false, poll := none, wait := some 0 }
        time := { s.time with shoeMs := 0 }
        store := { s.store with
          mem := .idle
          lockCopy := if p.levelRole then lockCopyOf (memReadRange s.memory 0x400 32) else s.store.lockCopy
          c0 := if p.shoeRole then c0 else s.store.c0
          c1 := if p.shoeRole then c1 else s.store.c1 }
        cresc := { s.cresc with cal := if p.shoeRole then judgeCal c0 c1 else s.cresc.cal }
        journal := journalAfter (clamped ++ faulted) s })

/-- R14, R16, R20, R147, R194, R219, R222, R236: the completion event. Outside SAFE the contacts become the registered
states (a LIT channel's is off), the first speaking set is composed of the registered stops and its shift
starts, the mode is RUN, the link SEEKING, the ANNOUNCE stands first in the queue, with a STAGE behind it at a shoe
station whose held pair differs from the last sent one. In SAFE every channel takes its contact (all are PLAIN:
StepKeepsSoundLaw), the speaking set is that of the contacts, and nothing is queued for the link. -/
def Obligations.CompletionEntersRunOrSafe : Prop :=
  (∀ s : State, s.view.mode = .starting → s.start.wait.isSome = true → s.start.safe = false →
      s.view.tutti = false → s.view.stage = 0 → s.link.txq = [] →
      ∃ t, exec .startUpCompletion s = .next t
        ∧ t = { s with
            channels := t.channels
            relay := t.relay
            view := { s.view with
              mode := .run
              ready := if s.params.levelRole then rosterMeetsMask s else s.view.ready }
            link := { s.link.leaveFrame .seeking with txq := t.link.txq }
            start := { s.start with wait := none }
            cresc := t.cresc
            flashes := { s.flashes with cresc := t.flashes.cresc } }
        ∧ (∀ c : Chan, t.channels[c] = { s.channels[c] with
            registered := !decide (s.channels[c].type = .lit) && s.channels[c].contact })
        ∧ (∀ c : Chan, t.relay.speaking.has c = t.channels[c].registered)
        ∧ t.relay = { s.relay with
            speaking := t.relay.speaking
            shift := some t.relay.speaking
            shiftUs := 0 }
        ∧ t.flashes.cresc = (if s.params.shoeRole = true ∧ s.cresc.cal = .faulted then
            some { lit := true, ms := 0 } else none)
        ∧ (s.params.shoeRole = false ∨ heldPair s = s.cresc.lastSent ∨ s.cresc.interval ≠ none →
            t.link.txq = [.announce] ∧ t.cresc = s.cresc)
        ∧ (s.params.shoeRole = true → heldPair s ≠ s.cresc.lastSent → s.cresc.interval = none →
            t.link.txq = [.announce, .stage s.cresc.program s.cresc.stage]
              ∧ t.cresc = { s.cresc with lastSent := heldPair s, interval := some 0 }))
  ∧ (∀ s : State, s.view.mode = .starting → s.start.wait.isSome = true → s.start.safe = true →
      s.view.tutti = false → s.view.stage = 0 → (∀ c : Chan, s.channels[c].type = .plain) →
      ∃ t, exec .startUpCompletion s = .next t
        ∧ t = { s with
            channels := t.channels
            relay := { s.relay with
              speaking := t.relay.speaking
              shift := some t.relay.speaking
              shiftUs := 0 }
            view := { s.view with mode := .safe }
            link := s.link.leaveFrame .seeking
            start := { s.start with wait := none }
            flashes := { s.flashes with cresc := none } }
        ∧ ∀ c : Chan, t.channels[c] = { s.channels[c] with registered := s.channels[c].contact }
            ∧ t.relay.speaking.has c = s.channels[c].contact)

/-! ### Stop channels and the speaking set -/

/-- R16, R114: in RUN and LISTEN a channel speaks exactly when it is registered on, or crescendo-added (its entry
reached by the stage and its exit not), or a tutti member while tutti is active; in SAFE when its contact is
on. -/
def Obligations.ComposedSetIsAsStated : Prop :=
  ∀ (s : State) (c : Chan),
    let entry := (s.params.crescendo[s.view.program][c]).1
    let leave := (s.params.crescendo[s.view.program][c]).2
    (s.view.mode = .safe → (composedSet s).has c = s.channels[c].contact)
      ∧ (s.view.mode = .run ∨ s.view.mode = .listen →
          ((composedSet s).has c = true ↔
            s.channels[c].registered = true
              ∨ (1 ≤ entry.val ∧ entry.val ≤ s.view.stage.val
                  ∧ (leave.val = 0 ∨ s.view.stage.val < leave.val))
              ∨ (s.channels[c].tutti = true ∧ s.view.tutti = true)))

/-- R5, R7, R10, R13, R38, R67, R171: a hand move, of a MOVED channel that is IDLE or QUEUED: the registered state takes
the contact, a queued move is removed and counted as yielded, the speaking set is recomposed, and in RUN a
HANDSET of the new state is handed over; in LISTEN none is. A LIT press inverts the registered state, recomposes the
speaking set and hands over a HANDSET in RUN; the release of the button only updates the contact. A HANDSET without a
place is lost with TX_FULL, and the stop keeps its new state. (Where the hand-over takes the link: HandOverFollowsTheClass;
a START of a frame that was there before is the model's event of its own, log 15.) -/
def Obligations.HandMovesAndLitPresses : Prop :=
  (∀ (s : State) (c : Chan) (on : Bool),
      let x := s.channels[c]
      let y := { x with contact := on, count := 0, registered := on, drive := Drive.idle }
      let queue := if x.drive = .queued then s.drive.queue.filter (fun m => decide (m.chan ≠ c))
        else s.drive.queue
      sampling s = true → x.type = .moved → x.drive = .idle ∨ x.drive = .queued → x.contact ≠ on →
      (∀ l, s.view.mode = .run ∧ takenLink (.handset x.stop on) s = some l
          ∨ s.view.mode = .listen ∧ l = s.link →
        ∃ t, exec (.debouncedChange c on) s = .next t
          ∧ t = { s with
              channels := t.channels
              relay := s.relay.compose (composedSet t)
              drive := { s.drive with queue := queue }
              ops := { s.ops with driving := t.ops.driving }
              journal := t.journal
              link := l }
          ∧ t.channels[c] = y ∧ OthersUnchanged c s t
          ∧ (x.drive = .idle → t.ops.driving = s.ops.driving ∧ t.journal = s.journal)
          ∧ (x.drive = .queued →
              t.ops.driving = if anyOutstanding t then
                s.ops.driving.map (fun d => { d with counts := d.counts.addYielded }) else none))
      ∧ (s.view.mode = .run → takenLink (.handset x.stop on) s = none →
        ∃ t, exec (.debouncedChange c on) s = .next t
          ∧ t = { s with
              channels := t.channels
              relay := s.relay.compose (composedSet t)
              drive := { s.drive with queue := queue }
              ops := t.ops
              store := s.store.dropRef s.journal.next
              journal := t.journal }
          ∧ t.channels[c] = y ∧ OthersUnchanged c s t
          ∧ t.journal.number = s.journal.number + 1
          ∧ (t.journal.records[s.journal.next]).map (fun r => r.subject)
              = some (.fault .txFull (headerByte 3 s.start.station) 0 0 0)))
  ∧ (∀ (s : State) (c : Chan),
      let x := s.channels[c]
      let y := { x with contact := true, count := 0, registered := !x.registered }
      sampling s = true → x.type = .lit →
      (∀ l, x.contact = false →
        s.view.mode = .run ∧ takenLink (.handset x.stop (!x.registered)) s = some l
          ∨ s.view.mode = .listen ∧ l = s.link →
        ∃ t, exec (.debouncedChange c true) s = .next t
          ∧ t = { s with
              channels := t.channels
              relay := s.relay.compose (composedSet t)
              link := l }
          ∧ t.channels[c] = y ∧ OthersUnchanged c s t)
      ∧ (x.contact = false → s.view.mode = .run → takenLink (.handset x.stop (!x.registered)) s = none →
        ∃ t, exec (.debouncedChange c true) s = .next t
          ∧ t = { s with
              channels := t.channels
              relay := s.relay.compose (composedSet t)
              ops := s.ops.dropRef s.journal.next
              store := s.store.dropRef s.journal.next
              journal := t.journal }
          ∧ t.channels[c] = y ∧ OthersUnchanged c s t
          ∧ FaultJournaled .txFull (headerByte 3 s.start.station) 0 0 0 s t)
      ∧ (x.contact = true → s.view.mode = .run ∨ s.view.mode = .listen →
        ∃ t, exec (.debouncedChange c false) s = .next t
          ∧ t = { s with channels := t.channels }
          ∧ t.channels[c] = { x with contact := false, count := 0 }
          ∧ OthersUnchanged c s t))

/-- R5, R6: a debounced change of a PLAIN channel in RUN or LISTEN, and of every channel in SAFE, is followed by the
registered state and the speaking set; in STARTING the contact and the PLAIN follow alone. -/
def Obligations.PlainChannelFollows : Prop :=
  ∀ (s : State) (c : Chan) (on : Bool),
    let x := s.channels[c]
    sampling s = true → x.contact ≠ on →
    (s.view.mode = .safe ∨ (x.type = .plain ∧ (s.view.mode = .run ∨ s.view.mode = .listen)) →
      ∃ t, exec (.debouncedChange c on) s = .next t
        ∧ t = { s with channels := t.channels, relay := s.relay.compose (composedSet t) }
        ∧ t.channels[c] = { x with contact := on, count := 0, registered := on }
        ∧ OthersUnchanged c s t)
    ∧ (s.view.mode = .starting →
      ∃ t, exec (.debouncedChange c on) s = .next t
        ∧ t = { s with channels := t.channels }
        ∧ t.channels[c] = { x with
            contact := on
            count := 0
            registered := if x.type = .plain then on else x.registered }
        ∧ OthersUnchanged c s t)

/-- R5, R8, R54, R55: a debounced change of a MOVED channel that is ENERGIZED, SETTLING or HELD changes the contact,
and the drive state only where it is the first change to the pulse's direction: the overdrive starts, or the
pulse ends where Tover is 0. -/
def Obligations.DrivenChannelKeepsItsRegistration : Prop :=
  ∀ (s : State) (c : Chan) (on : Bool),
    let x := s.channels[c]
    sampling s = true → x.contact ≠ on → x.type = .moved → x.drive ≠ .idle → x.drive ≠ .queued →
    s.view.mode = .run ∨ s.view.mode = .listen →
    ∃ t, exec (.debouncedChange c on) s = .next t
      ∧ t = { s with channels := t.channels }
      ∧ t.channels[c] = { x with contact := on, count := 0, drive := t.channels[c].drive }
      ∧ OthersUnchanged c s t
      ∧ (∀ a p, x.drive = .energized on a p none →
          t.channels[c].drive =
            if s.params.tover = 0 then .settling on a 0 else .energized on a p (some 0))
      ∧ ((∀ a p, x.drive ≠ .energized on a p none) → t.channels[c].drive = x.drive)

/-- R17, R18, R19: a changed speaking set starts a shift on an idle port and sets the further-shift flag on a shifting
one; an unchanged set does nothing. At the end of a shift the relay holds the shift set, which is the last latched
set; a flagged further shift starts with the speaking set as it is, unless that equals the set just latched. -/
def Obligations.ShiftEndLatchesTheShiftSet : Prop :=
  (∀ (r : Relay) (x : ChanSet),
    r.compose r.speaking = r
      ∧ (x ≠ r.speaking → r.shift = none →
          r.compose x = { r with speaking := x, shift := some x, shiftUs := 0 })
      ∧ (x ≠ r.speaking → r.shift ≠ none → r.compose x = { r with speaking := x, further := true }))
  ∧ ∀ (s : State) (x : ChanSet), s.relay.shift = some x →
    ∃ t, exec .shiftEnd s = .next t
      ∧ t = { s with relay := t.relay }
      ∧ t.relay.pipes = x ∧ t.relay.lastLatched = some x ∧ t.relay.further = false
      ∧ t.relay.speaking = s.relay.speaking
      ∧ t.relay.shift =
          if s.relay.further = true ∧ s.relay.speaking ≠ x then some s.relay.speaking else none

/-! ### Pistons and the sequencer -/

/-- R149, R152, R153, R169, R170, R171, R172, R189: where a frame handed over in RUN goes. On an IDLE line quiet for 4 bit
times, with no frame in hand or queued, it is taken into hand and its START driven in that event, its payload completed.
Else it enters the transmit queue by its class: without an entry of its class it is appended while fewer than 16 stand
there and has no place otherwise; a re-send leaves a queued TUTTI as it is; a flip meeting a queued flip of its stop
removes it and is not entered; any other frame removes the entry of its class and is appended. A frame without a place
is lost and TX_FULL journaled with its header. Outside RUN nothing is entered. (That a hand-over to a quiet link where a
frame stands queued already leaves its START to an event of its own is the model's choice, log 15.) -/
def Obligations.HandOverFollowsTheClass : Prop :=
  (∀ (q : List TxFrame) (f : TxFrame),
    let others := q.filter (fun e => decide (e.cls ≠ f.cls))
    ((∀ e ∈ q, e.cls ≠ f.cls) → coalesce q f = if q.length < 16 then some (q ++ [f]) else none)
      ∧ ((∃ e ∈ q, e.cls = f.cls) →
          (f = .tuttiResend → coalesce q f = some q)
          ∧ (f.isFlip = true → (∃ e ∈ q, e.cls = f.cls ∧ e.isFlip = true) → coalesce q f = some others)
          ∧ (f ≠ .tuttiResend → (f.isFlip = true → ∀ e ∈ q, e.cls = f.cls → e.isFlip = false) →
              coalesce q f = some (others ++ [f]))))
  ∧ (∀ (s : State) (f : TxFrame),
    let quiet := s.link.line = .idle ∧ 4 * s.params.rate.bitUs ≤ s.link.idleUs
      ∧ s.link.outLck = false ∧ s.pins.lckLow = false ∧ s.link.outLda = false ∧ s.pins.ldaLow = false
      ∧ s.link.hand = none ∧ s.link.txq = []
    (quiet → takenLink f s = some { s.link.leaveFrame .sending with
        hand := some {
          frame := f
          payload := (txMsg s.params.levelRole s.params.shoeRole s.view f).payload
          attempts := 0 }
        txq := []
        outLda := true
        inFrame := some 0 })
      ∧ (¬quiet → takenLink f s = (coalesce s.link.txq f).map (fun q => { s.link with txq := q })))
  ∧ ∀ (s : State) (f : TxFrame),
    (s.view.mode ≠ .run → handOver f s = s)
      ∧ (∀ l, s.view.mode = .run → takenLink f s = some l → handOver f s = { s with link := l })
      ∧ (s.view.mode = .run → takenLink f s = none →
          FaultJournaled .txFull (headerByte f.kind s.start.station) 0 0 0 s (handOver f s)
            ∧ handOver f s = { s with
                journal := (handOver f s).journal
                ops := s.ops.dropRef s.journal.next
                store := s.store.dropRef s.journal.next })

/-- R125, R126, R127, R129, R133, R134, R135, R137, R171: a press in RUN of a piston that hands over a frame: RECALL n
(a CAPTURE while the setter is armed), SET, CANCEL ALL, CANCEL DIV, TOGGLE, LEVEL UP and LEVEL DOWN. The frame goes to
the Link Controller (HandOverFollowsTheClass; log 15) and nothing else changes but the input; without a place it is
lost with TX_FULL. NONE, LEVEL UP at level 255 and LEVEL DOWN at level 0 do nothing. (That a press in
RUN acts also where the piston was held before the completion is the model's choice, in every statement of presses, log
36.) -/
def Obligations.PistonPressHandsOverItsFrame : Prop :=
  ∀ (s : State) (i : Fin 32),
    s.view.mode = .run → pistonsSampled s = true → s.pistons.inputs[i].pressed = false →
    let pistons := { s.pistons with inputs := s.pistons.inputs.set i { pressed := true, count := 0 } }
    (∀ f l, pistonFrame s.view s.params.pistonFns[i] = some f → takenLink f s = some l →
      exec (.pistonPress i) s = .next { s with link := l, pistons := pistons })
    ∧ (∀ f, pistonFrame s.view s.params.pistonFns[i] = some f → takenLink f s = none →
      ∃ t, exec (.pistonPress i) s = .next t
        ∧ t = { s with
            pistons := pistons
            journal := t.journal
            ops := s.ops.dropRef s.journal.next
            store := s.store.dropRef s.journal.next }
        ∧ FaultJournaled .txFull (headerByte f.kind s.start.station) 0 0 0 s t)
    ∧ (s.params.pistonFns[i] = .nothing ∨ (s.params.pistonFns[i] = .levelUp ∧ s.view.level.val = 255)
        ∨ (s.params.pistonFns[i] = .levelDown ∧ s.view.level.val = 0) →
      exec (.pistonPress i) s = .next { s with pistons := pistons })

/-- R125, R130, R131, R132: the step of NEXT and of PREV from the last recall. A press of NEXT or PREV in RUN hands over
a RECALL of the step, does nothing where there is none to step back from, and at the end of the sequence journals
SEQUENCE_END with the function and the last recall and starts the sequence-end timer and its flashing; no frame is
handed over there. (A piston held before the completion: log 36. Where the hand-over takes the link:
HandOverFollowsTheClass; log 15.) -/
def Obligations.SequencerPressTakesTheStep : Prop :=
  (∀ (v : View) (g : Nat), 1 ≤ g → g ≤ 128 →
      (v.lastRecall = none → nextStep v g = .place v.level 0 ∧ prevStep v g = .nothing)
        ∧ ∀ (l : Fin 256) (n : Fin 128), v.lastRecall = some (l, n) →
            (∀ m : Fin 128, m.val = n.val + 1 → m.val < g → nextStep v g = .place l m)
            ∧ (∀ k : Fin 256, k.val = l.val + 1 → n.val + 1 = g → nextStep v g = .place k 0)
            ∧ (l.val = 255 → n.val + 1 = g → nextStep v g = .atEnd)
            ∧ (g ≤ n.val → nextStep v g = .place l 0)
            ∧ (∀ m : Fin 128, m.val + 1 = n.val → n.val < g → prevStep v g = .place l m)
            ∧ (∀ (k : Fin 256) (m : Fin 128), k.val + 1 = l.val → m.val + 1 = g → n.val = 0 →
                prevStep v g = .place k m)
            ∧ (l.val = 0 → n.val = 0 → prevStep v g = .atEnd)
            ∧ (∀ m : Fin 128, m.val + 1 = g → g ≤ n.val → prevStep v g = .place l m))
  ∧ (∀ (s : State) (i : Fin 32) (st : SeqStep) (code : Byte),
      s.view.mode = .run → pistonsSampled s = true → s.pistons.inputs[i].pressed = false →
      (s.params.pistonFns[i] = .next ∧ st = nextStep s.view s.params.g ∧ code = 0
        ∨ s.params.pistonFns[i] = .prev ∧ st = prevStep s.view s.params.g ∧ code = 1) →
      let pressed := s.pistons.inputs.set i { pressed := true, count := 0 }
      (∀ l n link, st = .place l n → takenLink (.recall l n) s = some link →
        exec (.pistonPress i) s = .next { s with
          link := link
          pistons := { s.pistons with inputs := pressed } })
      ∧ (st = .nothing →
        exec (.pistonPress i) s = .next { s with pistons := { s.pistons with inputs := pressed } })
      ∧ (∀ l n, st = .atEnd → s.view.lastRecall = some (l, n) →
        ∃ t, exec (.pistonPress i) s = .next t
          ∧ t = { s with
              pistons := { inputs := pressed, seqEnd := some 0 }
              flashes := { s.flashes with seqEnd := some { lit := true, ms := 0 } }
              journal := t.journal
              ops := s.ops.dropRef s.journal.next
              store := s.store.dropRef s.journal.next }
          ∧ FaultJournaled .sequenceEnd code (byteOf l.val) (byteOf n.val) 0 s t))

/-- R136, R170: a press of TUTTI in RUN. Without a queued TUTTI of this station the inverse of the value before it
(that of the frame being sent, else the view's) is handed over; a queued one whose inverse is the value before
it is withdrawn; any other queued one is replaced by its inverse. (A re-send counts as carrying the view's value: the
model's choice, log 23. A piston held before the completion: log 36. Where the hand-over takes the link:
HandOverFollowsTheClass; log 15.) -/
def Obligations.TuttiPressInvertsTheExpectedValue : Prop :=
  ∀ (s : State) (i : Fin 32) (l : Link),
    s.view.mode = .run → pistonsSampled s = true → s.pistons.inputs[i].pressed = false →
    s.params.pistonFns[i] = .tutti →
    (queuedTutti s = none ∧ takenLink (.tutti (!tuttiBefore s)) s = some l
      ∨ (∃ v, queuedTutti s = some v ∧ tuttiBefore s = !v
          ∧ l = { s.link with txq := s.link.txq.filter (fun e => decide (e.cls ≠ .tutti)) })
      ∨ (∃ v, queuedTutti s = some v ∧ tuttiBefore s = v ∧ takenLink (.tutti (!v)) s = some l)) →
    exec (.pistonPress i) s = .next { s with
      link := l
      pistons := { s.pistons with inputs := s.pistons.inputs.set i { pressed := true, count := 0 } } }

/-- R124, R125, R133, R142: a release in RUN hands over SETTER 00h where the input's function is SET, and does nothing
else; a release in LISTEN or STARTING does nothing, and neither does a press in STARTING; a press in LISTEN is ignored
and journaled as DUPLICATE_ID with the input. (A piston held before the completion: log 36. Where the hand-over takes the
link: HandOverFollowsTheClass; log 15.) -/
def Obligations.ReleasesAndIgnoredPresses : Prop :=
  ∀ (s : State) (i : Fin 32), pistonsSampled s = true →
    let moved := fun p => s.pistons.inputs.set i { pressed := p, count := 0 }
    (s.pistons.inputs[i].pressed = true →
      (∀ l, s.view.mode = .run → s.params.pistonFns[i] = .set →
        takenLink (.setter false) s = some l →
        exec (.pistonRelease i) s = .next { s with
          link := l
          pistons := { s.pistons with inputs := moved false } })
      ∧ (s.view.mode ≠ .run ∨ s.params.pistonFns[i] ≠ .set →
        exec (.pistonRelease i) s = .next { s with pistons := { s.pistons with inputs := moved false } }))
    ∧ (s.pistons.inputs[i].pressed = false → s.view.mode = .starting →
      exec (.pistonPress i) s = .next { s with pistons := { s.pistons with inputs := moved true } })
    ∧ (s.pistons.inputs[i].pressed = false → s.view.mode = .listen →
      ∃ t, exec (.pistonPress i) s = .next t
        ∧ t = { s with
            pistons := { s.pistons with inputs := moved true }
            journal := t.journal
            ops := s.ops.dropRef s.journal.next
            store := s.store.dropRef s.journal.next }
        ∧ FaultJournaled .duplicateId 1 (byteOf i.val) 0 0 s t)

/-- R80, R81, R88, R138: LOCK at a LEVEL-role station in RUN with the setter armed inverts the view level's flag in
the lock table copy, and no other flag, and queues the write of its lock byte with the new value or marks it
deferred; without the role or the setter the press is ignored. (A piston held before the completion: log 36.) -/
def Obligations.LockPressInvertsTheFlag : Prop :=
  ∀ (s : State) (i : Fin 32),
    s.view.mode = .run → pistonsSampled s = true → s.pistons.inputs[i].pressed = false →
    s.params.pistonFns[i] = .lock →
    let pistons := { s.pistons with inputs := s.pistons.inputs.set i { pressed := true, count := 0 } }
    let n : Fin 32 := Fin.ofNat 32 (s.view.level.val / 8)
    (s.params.levelRole = true → s.view.setter = true →
      ∃ t, exec (.pistonPress i) s = .next t
        ∧ t = { s with pistons := pistons, store := t.store, journal := t.journal }
        ∧ (∀ l : Fin 256, locked t.store.lockCopy l =
            if l = s.view.level then !locked s.store.lockCopy l else locked s.store.lockCopy l)
        ∧ t.store = { s.store with
            lockCopy := t.store.lockCopy
            queue := t.store.queue
            lockMarks := t.store.lockMarks }
        ∧ (∀ q, enterQueue s.store.queue (.lockByte n) [lockByteOf t.store.lockCopy n] none = some q →
            t.store.queue = q ∧ t.store.lockMarks = s.store.lockMarks
              ∧ t.journal = s.journal.close (replacedCapture s.store.queue (.lockByte n)) .superseded none)
        ∧ (enterQueue s.store.queue (.lockByte n) [lockByteOf t.store.lockCopy n] none = none →
            t.store.queue = s.store.queue ∧ t.journal = s.journal
              ∧ ∀ m : Fin 32, t.store.lockMarks.getLsbD m.val
                  = (decide (m = n) || s.store.lockMarks.getLsbD m.val)))
    ∧ (s.params.levelRole = false ∨ s.view.setter = false →
      exec (.pistonPress i) s = .next { s with pistons := pistons })

/-- R99, R100, R106, R107, R109, R139, R140, R236: PROGRAM k at a SHOE-role station with a GOOD calibration selects the
program, and hands over a STAGE of the new pair where it differs from the last sent one and the interval timer is
stopped; CALIBRATE with the setter armed takes the filtered value as candidate at the first press, and at the second
accepts a span of 64 or more, ends the flashing and writes the calibration, or rejects a smaller one with SHOE_FAULT.
Without the role, PROGRAM with a FAULTED calibration, and CALIBRATE without the setter or without a filtered value, the
press does nothing. (A piston held before the completion: log 36. Where the hand-over takes the link:
HandOverFollowsTheClass; log 15.) -/
def Obligations.ShoePistonsSelectAndCalibrate : Prop :=
  ∀ (s : State) (i : Fin 32),
    s.view.mode = .run → pistonsSampled s = true → s.pistons.inputs[i].pressed = false →
    let pistons := { s.pistons with inputs := s.pistons.inputs.set i { pressed := true, count := 0 } }
    ((∃ k, s.params.pistonFns[i] = .program k) ∧ (s.params.shoeRole = false ∨ s.cresc.cal = .faulted)
        ∨ s.params.pistonFns[i] = .calibrate
          ∧ (s.params.shoeRole = false ∨ s.view.setter = false ∨ s.cresc.filtered = none) →
      exec (.pistonPress i) s = .next { s with pistons := pistons })
    ∧ (∀ k, s.params.pistonFns[i] = .program k → s.params.shoeRole = true → s.cresc.cal = .good →
      ((k, s.cresc.stage) = s.cresc.lastSent ∨ s.cresc.interval ≠ none →
        exec (.pistonPress i) s = .next { s with pistons := pistons, cresc := { s.cresc with program := k } })
      ∧ ((k, s.cresc.stage) ≠ s.cresc.lastSent → s.cresc.interval = none →
        let sent := { s.cresc with program := k, lastSent := (k, s.cresc.stage), interval := some 0 }
        (∀ l, takenLink (.stage k s.cresc.stage) s = some l →
          exec (.pistonPress i) s = .next { s with pistons := pistons, cresc := sent, link := l })
        ∧ (takenLink (.stage k s.cresc.stage) s = none →
          ∃ t, exec (.pistonPress i) s = .next t
            ∧ t = { s with
                pistons := pistons
                cresc := sent
                journal := t.journal
                ops := s.ops.dropRef s.journal.next
                store := s.store.dropRef s.journal.next }
            ∧ FaultJournaled .txFull (headerByte 6 s.start.station) 0 0 0 s t)))
    ∧ (∀ f : Fin 1024, s.params.pistonFns[i] = .calibrate → s.params.shoeRole = true →
      s.view.setter = true → s.cresc.filtered = some f →
      (s.cresc.procedure = none →
        exec (.pistonPress i) s = .next { s with
          pistons := pistons
          cresc := { s.cresc with procedure := some f } })
      ∧ (∀ c, s.cresc.procedure = some c → 64 ≤ calSpan c f →
        ∃ t, exec (.pistonPress i) s = .next t
          ∧ t = { s with
              pistons := pistons
              store := t.store
              journal := t.journal
              cresc := { s.cresc with procedure := none, cal := .good }
              flashes := { s.flashes with cresc := none } }
          ∧ t.store.c0 = c ∧ t.store.c1 = f
          ∧ (∀ q, enterQueue s.store.queue .calibration (calibrationBytes c f) none = some q →
              t.store = { s.store with c0 := c, c1 := f, queue := q }
                ∧ t.journal = s.journal.close (replacedCapture s.store.queue .calibration) .superseded none)
          ∧ (enterQueue s.store.queue .calibration (calibrationBytes c f) none = none →
              t.store = { s.store with c0 := c, c1 := f, calMark := true } ∧ t.journal = s.journal))
      ∧ (∀ c, s.cresc.procedure = some c → calSpan c f < 64 →
        ∃ t, exec (.pistonPress i) s = .next t
          ∧ t = { s with
              pistons := pistons
              cresc := { s.cresc with procedure := none }
              journal := t.journal
              ops := s.ops.dropRef s.journal.next
              store := s.store.dropRef s.journal.next }
          ∧ FaultJournaled .shoeFault (byteOf (c.val / 256)) (byteOf c.val) (byteOf (f.val / 256))
              (byteOf f.val) s t))

/-! ### The crescendo shoe and the timers -/

/-- R103: k(q) = min(S − 1, floor(q × S / 1000)) grows with q, needs the minimum only at q = 1000, and divides
0–1000 among the stages by the stated bands, whose lower bounds are ceiling(1000 × j / S). -/
def Obligations.StageCandidateBands : Prop :=
  ∀ S : Nat, 8 ≤ S → S ≤ 60 →
    (∀ q, q ≤ 1000 → candidate S q = min (S - 1) (q * S / 1000))
      ∧ (∀ q r, q ≤ r → r ≤ 1000 → candidate S q ≤ candidate S r)
      ∧ (∀ q, q < 1000 → q * S / 1000 ≤ S - 1) ∧ 1000 * S / 1000 = S
      ∧ (∀ q j, q ≤ 1000 → j < S → 1000 * j ≤ q * S → q * S < 1000 * (j + 1) → candidate S q = j)
      ∧ (∀ j, j < S → ∀ q, (1000 * j ≤ q * S ↔ (1000 * j + (S - 1)) / S ≤ q))
      ∧ (∀ q, q < 1000 → ∃ j, j < S ∧ 1000 * j ≤ q * S ∧ q * S < 1000 * (j + 1)
          ∧ ∀ i, 1000 * i ≤ q * S → q * S < 1000 * (i + 1) → i = j)

/-- R102, R104: the held stage after a new position: 0 at 0, S − 1 at 1000, between them raised to the candidate of
p − h, lowered to that of p + h, or kept; never above S − 1; without hysteresis the candidate itself. The position of a
filtered value is 0 at c0 and beyond it, 1000 at c1 and beyond it, and between them the distance from c0 in permille of
the span, rounded down, and below 1000. -/
def Obligations.HeldStageFollowsWithHysteresis : Prop :=
  ∀ S h held p : Nat, 8 ≤ S → S ≤ 60 → h ≤ 50 → held < S → p ≤ 1000 →
    (p = 0 → nextStage S h held p = 0)
      ∧ (p = 1000 → nextStage S h held p = S - 1)
      ∧ (0 < p → p < 1000 →
          candidate S (p - h) ≤ candidate S (min 1000 (p + h))
          ∧ (held < candidate S (p - h) → nextStage S h held p = candidate S (p - h))
          ∧ (candidate S (min 1000 (p + h)) < held → nextStage S h held p = candidate S (min 1000 (p + h)))
          ∧ (candidate S (p - h) ≤ held → held ≤ candidate S (min 1000 (p + h)) →
              nextStage S h held p = held)
          ∧ (h = 0 → nextStage S h held p = candidate S p))
      ∧ nextStage S h held p ≤ S - 1
      ∧ ∀ c0 c1 f : Fin 1024,
          position c0 c1 f ≤ 1000
          ∧ (c0 < c1 →
              (f ≤ c0 → position c0 c1 f = 0)
              ∧ (c1 ≤ f → position c0 c1 f = 1000)
              ∧ (c0 < f → f < c1 →
                  position c0 c1 f = (f.val - c0.val) * 1000 / calSpan c0 c1
                    ∧ position c0 c1 f < 1000))
          ∧ (c1 < c0 →
              (c0 ≤ f → position c0 c1 f = 0)
              ∧ (f ≤ c1 → position c0 c1 f = 1000)
              ∧ (c1 < f → f < c0 →
                  position c0 c1 f = (c0.val - f.val) * 1000 / calSpan c0 c1
                    ∧ position c0 c1 f < 1000))

/-- R96, R97, R104, R105, R107, R109: a sample enters the ring, the last four give the filtered value, a GOOD calibration
takes it up as the held stage, and in RUN a pair that differs from the last sent one is handed over as STAGE
while the interval timer is stopped; without a place the frame is lost with TX_FULL, and the pair counts as sent.
(Where the hand-over takes the link: HandOverFollowsTheClass; log 15.) -/
def Obligations.SampleEventUpdatesTheStage : Prop :=
  ∀ (s : State) (r : Fin 1024), shoeSampled s = true →
    (s.cresc.ring.length < 3 →
      exec (.sampleEvent r) s =
        .next { s with cresc := { s.cresc with ring := s.cresc.ring ++ [r], filtered := none } })
    ∧ ∀ (a b c d : Fin 1024) (f : Fin 1024),
      (s.cresc.ring = [b, c, d] ∨ s.cresc.ring = [a, b, c, d]) →
      f.val = (b.val + c.val + d.val + r.val) / 4 →
      let taken := { s.cresc with ring := [b, c, d, r], filtered := some f }
      let stage : Fin 60 := if s.cresc.cal = .good then
          Fin.ofNat 60 (nextStage s.params.s s.params.h s.cresc.stage.val
            (position s.store.c0.val s.store.c1.val f.val))
        else s.cresc.stage
      let sent := { taken with
        stage := stage
        lastSent := (s.cresc.program, stage)
        interval := some 0 }
      (s.view.mode ≠ .run ∨ s.cresc.cal = .faulted ∨ (s.cresc.program, stage) = s.cresc.lastSent
          ∨ s.cresc.interval ≠ none →
        exec (.sampleEvent r) s = .next { s with cresc := { taken with stage := stage } })
      ∧ (s.view.mode = .run → s.cresc.cal = .good → (s.cresc.program, stage) ≠ s.cresc.lastSent →
        s.cresc.interval = none →
        (∀ l, takenLink (.stage s.cresc.program stage) s = some l →
          exec (.sampleEvent r) s = .next { s with cresc := sent, link := l })
        ∧ (takenLink (.stage s.cresc.program stage) s = none →
          ∃ t, exec (.sampleEvent r) s = .next t
            ∧ t = { s with
                cresc := sent
                journal := t.journal
                ops := s.ops.dropRef s.journal.next
                store := s.store.dropRef s.journal.next }
            ∧ FaultJournaled .txFull (headerByte 6 s.start.station) 0 0 0 s t))

/-- R107, R108, R109, R132, R162, R236: the ends of timers. At the end of the STAGE interval a pair that still differs is
handed over and the timer starts again, and equal pairs stop it; the sequence-end and LINK FAULT timers stop, their
indicators dark; a flash timer changes lit and dark and starts again. (The command of a timer's end is taken where the
timer runs: the model's choice, log 1. Where the hand-over takes the link: HandOverFollowsTheClass; log 15.) -/
def Obligations.TimersEndOrGoOn : Prop :=
  ∀ s : State,
    (s.cresc.interval.isSome = true →
      (s.view.mode ≠ .run ∨ heldPair s = s.cresc.lastSent →
        exec .intervalTimerExpiry s = .next { s with cresc := { s.cresc with interval := none } })
      ∧ (s.view.mode = .run → heldPair s ≠ s.cresc.lastSent →
        let sent := { s.cresc with lastSent := heldPair s, interval := some 0 }
        (∀ l, takenLink (.stage s.cresc.program s.cresc.stage) s = some l →
          exec .intervalTimerExpiry s = .next { s with cresc := sent, link := l })
        ∧ (takenLink (.stage s.cresc.program s.cresc.stage) s = none →
          ∃ t, exec .intervalTimerExpiry s = .next t
            ∧ t = { s with
                cresc := sent
                journal := t.journal
                ops := s.ops.dropRef s.journal.next
                store := s.store.dropRef s.journal.next }
            ∧ FaultJournaled .txFull (headerByte 6 s.start.station) 0 0 0 s t)))
    ∧ (s.pistons.seqEnd.isSome = true → ∃ t, exec .sequenceEndTimerExpiry s = .next t
        ∧ t = { s with
            pistons := { s.pistons with seqEnd := none }
            flashes := { s.flashes with seqEnd := none } }
        ∧ fnLit t .seqEnd = false)
    ∧ (s.link.linkFault.isSome = true → ∃ t, exec .linkFaultTimerExpiry s = .next t
        ∧ t = { s with link := { s.link with linkFault := none } }
        ∧ fnLit t .linkFault = false)
    ∧ (∀ lit n, s.flashes.cresc = some { lit := lit, ms := n } →
        exec (.flashTimerExpiry .cresc) s =
          .next { s with flashes := { s.flashes with cresc := some { lit := !lit, ms := 0 } } })
    ∧ ∀ lit n, s.flashes.seqEnd = some { lit := lit, ms := n } →
        exec (.flashTimerExpiry .seqEnd) s =
          .next { s with flashes := { s.flashes with seqEnd := some { lit := !lit, ms := 0 } } }

/-! ### The coil drive -/

/-- R62, R63: the supply state at the first sample after a reset, at a high sample while LOST and at a low sample while
WAITING; a first low sample is journaled SUPPLY_LOST with parameter 0. A supply loss makes every ENERGIZED channel
HELD toward its registered state, with the pulse's attempt where that is the pulse's direction and attempt 1
otherwise; the other channels and the queue stay; SUPPLY_LOST is journaled with the number of channels held. -/
def Obligations.SupplySamplesAndLoss : Prop :=
  (∀ s : State,
      (sampling s = true → s.drive.supply = .unsampled →
        exec (.supplyFirstSample true) s =
          .next { s with drive := { s.drive with supply := .present, restore := none } }
        ∧ ∃ t, exec (.supplyFirstSample false) s = .next t
          ∧ t = { s with
              drive := { s.drive with supply := .lost, restore := none }
              journal := t.journal
              ops := s.ops.dropRef s.journal.next
              store := s.store.dropRef s.journal.next }
          ∧ FaultJournaled .supplyLost 0 0 0 0 s t)
      ∧ (s.drive.supply = .lost →
        exec .supplyWaitStart s =
          .next { s with drive := { s.drive with supply := .waiting, restore := some 0 } })
      ∧ (s.drive.supply = .waiting →
        exec .supplyWaitAbandon s =
          .next { s with drive := { s.drive with supply := .lost, restore := none } }))
  ∧ (∀ s : State, s.drive.supply = .present →
      ∃ t, exec .supplyLoss s = .next t
        ∧ t = { s with
            channels := t.channels
            drive := { s.drive with supply := .lost, restore := none }
            journal := t.journal
            ops := s.ops.dropRef s.journal.next
            store := s.store.dropRef s.journal.next }
        ∧ energizedCount t = 0
        ∧ (∀ c : Chan, t.channels[c] = { s.channels[c] with drive := t.channels[c].drive })
        ∧ (∀ (c : Chan) (dir : Bool) (a : Attempt) (p : Nat) (o : Option Nat),
            s.channels[c].drive = .energized dir a p o →
            t.channels[c].drive = .held s.channels[c].registered
              (if s.channels[c].registered = dir then a else .first))
        ∧ (∀ c : Chan, s.channels[c].drive.isEnergized = false →
            t.channels[c].drive = s.channels[c].drive)
        ∧ FaultJournaled .supplyLost (byteOf (energizedCount s)) 0 0 0 s t)

/-- R49, R66: at the restore each HELD channel whose contact equals its registered state is IDLE with its fault flag
clear, each other one QUEUED, with its held move before the old head in ascending channel order; the supply
is PRESENT and SUPPLY_RESTORED is the newest record. -/
def Obligations.RestoreRequeuesHeldMoves : Prop :=
  ∀ s : State, s.drive.supply = .waiting →
    ∃ t, exec .restore s = .next t
      ∧ t = { s with
          channels := t.channels
          drive := { queue := t.drive.queue, supply := .present, restore := none }
          ops := t.ops
          store := s.store.dropRef s.journal.next
          journal := t.journal }
      ∧ (∀ c : Chan, s.channels[c].drive.isHeld = false → t.channels[c] = s.channels[c])
      ∧ (∀ c : Chan, s.channels[c].drive.isHeld = true →
          (s.channels[c].contact = s.channels[c].registered →
            t.channels[c] = { s.channels[c] with drive := .idle, fault := false })
          ∧ (s.channels[c].contact ≠ s.channels[c].registered →
            t.channels[c] = { s.channels[c] with drive := .queued }))
      ∧ (∃ front, t.drive.queue = front ++ s.drive.queue
          ∧ (front.map (fun m => m.chan)).Pairwise (· < ·)
          ∧ (∀ m : Move, m ∈ front ↔ s.channels[m.chan].drive = .held m.dir m.attempt
              ∧ s.channels[m.chan].contact ≠ s.channels[m.chan].registered)
          ∧ (t.journal.records[s.journal.next]).map (fun r => r.subject)
              = some (.fault .supplyRestored (byteOf front.length) 0 0 0))
      ∧ t.journal.number = s.journal.number + 1
      ∧ t.ops.list = (s.ops.dropRef s.journal.next).list
      ∧ (anyOutstanding t = true →
          t.ops.driving.map (fun d => d.counts) = s.ops.driving.map (fun d =>
            { d.counts with done := satInc^[restoreVerifies s] d.counts.done }))
      ∧ (anyOutstanding t = false → t.ops.driving = none)

/-- R51, R52, R55: a pulse starts from the head of the queue while the queue is not empty, fewer than P coils are
energized and the supply is PRESENT, and otherwise none does; the end of a pulse releases the coil, and the channel
settles with the pulse's direction and attempt. -/
def Obligations.PulsesStartAndEnd : Prop :=
  (∀ (s : State) (m : Move) (rest : List Move), s.drive.queue = m :: rest →
      (energizedCount s < s.params.p → s.drive.supply = .present →
        ∃ t, exec .pulseStart s = .next t
          ∧ t = { s with channels := t.channels, drive := { s.drive with queue := rest } }
          ∧ t.channels[m.chan] = { s.channels[m.chan] with drive := .energized m.dir m.attempt 0 none }
          ∧ OthersUnchanged m.chan s t)
      ∧ (s.params.p ≤ energizedCount s ∨ s.drive.supply ≠ .present → exec .pulseStart s = .next s))
  ∧ (∀ (s : State) (c : Chan) (dir : Bool) (a : Attempt) (p : Nat) (o : Option Nat),
      s.channels[c].drive = .energized dir a p o →
      ∃ t, exec (.pulseEnd c) s = .next t
        ∧ t = { s with channels := t.channels }
        ∧ t.channels[c] = { s.channels[c] with drive := .settling dir a 0 }
        ∧ OthersUnchanged c s t
        ∧ energizedCount t + 1 = energizedCount s)

/-- R38, R50, R57–R59, R67: a verify that atTarget: the channel is IDLE with its fault flag clear, done rises by 1, and the
DRIVING operation closes when no channel is outstanding. A failed move on attempt 1 is queued again at the tail with
attempt 2, and retries rises by 1. A changed target queues a fresh move toward the registered state at the tail with
attempt 1, and nothing is counted or journaled. -/
def Obligations.VerifyDecidesTheMove : Prop :=
  (∀ (s : State) (c : Chan) (dir : Bool) (a : Attempt) (n : Nat),
      s.channels[c].drive = .settling dir a n → s.channels[c].contact = s.channels[c].registered →
      ∃ t, exec (.verify c) s = .next t
        ∧ t = { s with
            channels := t.channels
            ops := { s.ops with driving := t.ops.driving }
            journal := t.journal }
        ∧ t.channels[c] = { s.channels[c] with drive := .idle, fault := false }
        ∧ OthersUnchanged c s t
        ∧ (anyOutstanding t = true →
            t.ops.driving = s.ops.driving.map (fun d => { d with counts := d.counts.addDone }))
        ∧ (anyOutstanding t = false → t.ops.driving = none)
        ∧ ∀ d p r, s.ops.driving = some d → d.record = some p → s.journal.records[p] = some r →
            r.state = .opened →
            (t.journal.records[p]).map (fun r => (r.state, r.counts.done))
              = some (if anyOutstanding t then .opened else .closed, satInc d.counts.done))
  ∧ (∀ (s : State) (c : Chan) (dir : Bool) (n : Nat),
      s.channels[c].drive = .settling dir .first n → s.channels[c].contact ≠ s.channels[c].registered →
      s.channels[c].registered = dir →
      ∃ t, exec (.verify c) s = .next t
        ∧ t = { s with
            channels := t.channels
            drive := { s.drive with
              queue := s.drive.queue ++ [{ chan := c, dir := dir, attempt := .second }] }
            ops := { s.ops with
              driving := s.ops.driving.map (fun d => { d with counts := d.counts.addRetry }) }
            journal := t.journal }
        ∧ t.channels[c] = { s.channels[c] with drive := .queued }
        ∧ OthersUnchanged c s t
        ∧ t.journal.number = s.journal.number)
  ∧ (∀ (s : State) (c : Chan) (dir : Bool) (a : Attempt) (n : Nat),
      s.channels[c].drive = .settling dir a n → s.channels[c].contact ≠ s.channels[c].registered →
      s.channels[c].registered ≠ dir →
      ∃ t, exec (.verify c) s = .next t
        ∧ t = { s with
            channels := t.channels
            drive := { s.drive with
              queue := s.drive.queue ++
                [{ chan := c, dir := s.channels[c].registered, attempt := .first }] } }
        ∧ t.channels[c] = { s.channels[c] with drive := .queued }
        ∧ OthersUnchanged c s t)

/-- R15, R17, R38, R57, R60, R67: the STUCK verdict. The channel is IDLE, its registered state takes the contact, its
fault flag is set, the speaking set is recomposed, the channel goes to the DRIVING operation's fault list, STUCK
is journaled, no HANDSET is handed over, and the closing check is made. -/
def Obligations.StuckVerdictTakesTheContact : Prop :=
  ∀ (s : State) (c : Chan) (dir : Bool) (n : Nat),
    s.channels[c].drive = .settling dir .second n → s.channels[c].contact ≠ s.channels[c].registered →
    s.channels[c].registered = dir →
    ∃ t, exec (.verify c) s = .next t
      ∧ t = { s with
          channels := t.channels
          relay := s.relay.compose (composedSet t)
          ops := t.ops
          store := s.store.dropRef s.journal.next
          journal := t.journal }
      ∧ t.channels[c] = { s.channels[c] with
          drive := .idle
          registered := s.channels[c].contact
          fault := true }
      ∧ OthersUnchanged c s t
      ∧ (t.journal.records[s.journal.next]).map (fun r => r.subject)
          = some (.fault .stuck (byteOf c.val) 0 0 0)
      ∧ t.journal.number = s.journal.number + 1
      ∧ t.ops.list = (s.ops.dropRef s.journal.next).list
      ∧ (anyOutstanding t = true →
          t.ops.driving.map (fun d => d.counts)
            = s.ops.driving.map (fun d => d.counts.addFault c))
      ∧ (anyOutstanding t = false → t.ops.driving = none)

/-! ### Operations -/

/-- R17, R30, R33–R37: a CANCEL, TOGGLE or MIRROR at the head is planned (`Planned`). Every channel of the affected set
takes its target with its fault flag clear and its drive treated, no other channel changes, the queue is the one the
treatment leaves, the speaking set is recomposed, the entry leaves the list (withdrawing a hold), the operation that
was DRIVING closes SUPERSEDED with the counts it had reached, and the new one is DRIVING, with what is outstanding in
and outside its set as its planned and carried counts in its record too, if any channel is outstanding, else CLOSED.
(A withdrawn hold releases LCK at once at a transmitter too: the model's choice, log 32.) -/
def Obligations.TakeUpPlansTheHead : Prop :=
  ∀ (s : State) (e : OpEntry) (rest : List OpEntry),
    s.ops.list = e :: rest → e.state = .waiting → e.asked = false →
    (∀ l k, e.body ≠ .recall l k) → (∀ l k, e.body ≠ .capture l k) →
    (∀ c : Chan, e.affected.has c = true → s.channels[c].type ≠ .plain) →
    let target : Chan → Bool := fun c =>
      match e.body with
      | .toggle _ .on => true
      | .toggle _ .flip => !s.channels[c].registered
      | .mirror _ on => on
      | _ => false
    ∃ t, exec .takeUpHead s = .next t
      ∧ t = { s with
          channels := t.channels
          drive := { s.drive with queue := t.drive.queue }
          relay := t.relay
          ops := { list := rest, driving := t.ops.driving }
          link := s.link.withdrawHold
          journal := t.journal }
      ∧ Planned e target s t

/-- R34, R50: what a plan, taken up from the list or from a RECALL's result, does with each MOVED channel of the affected
set by its drive state and contact, in the state that the command leaves: an IDLE channel away from its target is
QUEUED, its move appended in ascending channel order behind the moves already there; a QUEUED one has its entry
redirected in place, or removed at its target; a HELD one has its held move redirected or removed; a pulse in progress
runs on. -/
def Obligations.PlanTreatsAChannelByItsDriveState : Prop :=
  ∀ (s : State) (e : OpEntry) (rest : List OpEntry) (cmd : Instr) (target : Chan → Bool),
    s.ops.list = e :: rest →
    (∀ c : Chan, e.affected.has c = true → s.channels[c].type ≠ .plain) →
    (cmd = .takeUpHead ∧ e.state = .waiting ∧ e.asked = false ∧ target = targetOf s e.body
        ∧ (∀ l k, e.body ≠ .recall l k) ∧ (∀ l k, e.body ≠ .capture l k)
      ∨ cmd = .fetchResult ∧ e.state = .fetching ∧ ∃ l k bytes,
          s.store.fetch = some { req := .recall l k, result := some bytes }
          ∧ ((classify bytes = .blank ∧ target = fun _ => false)
            ∨ ∃ x, classify bytes = .written x ∧ target = fun c => x.has c)) →
    let planned := fun c : Chan => e.affected.has c && decide (s.channels[c].type = .moved)
    let atTarget := fun c : Chan => decide (s.channels[c].contact = target c)
    let queued := fun c : Chan => decide (s.channels[c].drive = .queued)
    let idle := fun c : Chan => decide (s.channels[c].drive = .idle)
    let fresh := fun c : Chan => ({ chan := c, dir := target c, attempt := .first } : Move)
    ∃ t, exec cmd s = .next t
      ∧ (∀ c : Chan, planned c = true → let x := s.channels[c]; let y := t.channels[c]
          y = { x with registered := target c, fault := false, drive := y.drive }
          ∧ (x.drive = .idle ∨ x.drive = .queued →
              y.drive = if x.contact = target c then .idle else .queued)
          ∧ (∀ dir a, x.drive = .held dir a →
              y.drive = if x.contact = target c then .idle else .held (target c) .first)
          ∧ (x.drive.isEnergized = true ∨ (∃ dir a n, x.drive = .settling dir a n) → y.drive = x.drive))
      ∧ (∀ c : Chan, planned c = false → t.channels[c].drive = s.channels[c].drive)
      ∧ t.drive = { s.drive with queue :=
          ((s.drive.queue.filter (fun m => !(planned m.chan && queued m.chan && atTarget m.chan))).map
            (fun m => if planned m.chan && queued m.chan then fresh m.chan else m))
          ++ ((List.finRange 48).filter (fun c => planned c && idle c && !atTarget c)).map fresh }

/-- R31, R85, R86: a RECALL at the head issues its fetch when the fetch path is free and becomes FETCHING; the fetch
is served at once from the newest write-queue entry for its slot, or from an IDLE memory, and waits otherwise.
While another fetch is in flight it stays WAITING. (That the waiting RECALL is marked, so that it is not taken up
twice, is the model's choice, log 17.) -/
def Obligations.TakeUpAsksForTheSlot : Prop :=
  ∀ (s : State) (e : OpEntry) (rest : List OpEntry) (l : Fin 256) (k : Fin 128),
    s.ops.list = e :: rest → e.state = .waiting → e.asked = false → e.body = .recall l k →
    (s.store.fetch = none →
      exec .takeUpHead s = .next { s with
        ops := { s.ops with list := { e with state := .fetching } :: rest }
        store := { s.store with fetch := some {
          req := .recall l k
          result :=
            match newestData s.store.queue (.slot l k) with
            | some d => some d
            | none => if s.store.mem = .idle then some (memReadRange s.memory (slotAddress l k) 8)
                else none } } })
    ∧ (s.store.fetch ≠ none →
      exec .takeUpHead s = .next { s with
        ops := { s.ops with list := { e with asked := true } :: rest } })

/-- R40–R43, R79, R80: where a write goes in the write queue: the data of an entry for its target that is not in flight
is replaced in place, with the capture reference; without such an entry, be one in flight or none, it is a new entry at
the tail while the queue holds fewer than 8, and has no place otherwise. A CAPTURE at the head, or a STORING one taken
up again, so enters the WRITTEN record of the registered states of its affected set and leaves the list, its record
staying open with the write and a replaced capture's closing SUPERSEDED; where the write has no place the capture is
STORING. (A hold withdrawn as the entry leaves releases LCK at once at a transmitter too: the model's choice, log 32.) -/
def Obligations.CaptureEntersItsSnapshot : Prop :=
  (∀ (q : List WriteEntry) (t : Target) (data : List Byte) (capture : Option (Fin 32)),
    (∀ before e after, q = before ++ e :: after → e.target = t → e.inFlight = false →
      (∀ x ∈ before ++ after, x.target = t → x.inFlight = true) →
      enterQueue q t data capture = some (before ++ { e with data := data, capture := capture } :: after)
        ∧ replacedCapture q t = e.capture)
    ∧ ((∀ x ∈ q, x.target = t → x.inFlight = true) →
      enterQueue q t data capture = (if q.length < 8 then
          some (q ++ [{ target := t, data := data, inFlight := false, capture := capture }])
        else none)
      ∧ replacedCapture q t = none))
  ∧ ∀ (s : State) (e : OpEntry) (rest : List OpEntry) (l : Fin 256) (k : Fin 128) (cmd : Instr),
    s.ops.list = e :: rest → e.body = .capture l k →
    (cmd = .takeUpHead ∧ e.state = .waiting ∧ e.asked = false
      ∨ cmd = .storingCaptureRetake ∧ e.state = .storing) →
    ∃ x : ChanSet,
      (∀ c : Chan, x.has c = (e.affected.has c && s.channels[c].registered))
      ∧ (∀ q, enterQueue s.store.queue (.slot l k) (writtenRecord x) e.record = some q →
          exec cmd s = .next { s with
            ops := { s.ops with list := rest }
            link := s.link.withdrawHold
            store := { s.store with queue := q }
            journal := s.journal.close (replacedCapture s.store.queue (.slot l k)) .superseded none })
      ∧ (enterQueue s.store.queue (.slot l k) (writtenRecord x) e.record = none →
          exec cmd s = .next { s with
            ops := { s.ops with list := { e with state := .storing } :: rest } })

/-- R17, R32, R34–R37, R77, R87: the result of the head RECALL's fetch. A pattern or a blank record is planned
(`Planned`), each channel of the affected set to its pattern bit or to off, the operation that was DRIVING closing
SUPERSEDED and the RECALL DRIVING or CLOSED; a corrupt one journals CHECK_FAIL, takes the entry off the list
and leaves channels, queue, speaking set and DRIVING operation as they were. (The model's choices: the order of the two
records of a corrupt one, log 20; a hold withdrawn as the entry leaves releases LCK at once at a transmitter too,
log 32.) -/
def Obligations.FetchResultActsOnTheRecall : Prop :=
  ∀ (s : State) (e : OpEntry) (rest : List OpEntry) (l : Fin 256) (k : Fin 128) (bytes : List Byte),
    s.ops.list = e :: rest → e.state = .fetching → (∀ x ∈ rest, x.asked = false) →
    s.store.fetch = some { req := .recall l k, result := some bytes } →
    (∀ c : Chan, e.affected.has c = true → s.channels[c].type ≠ .plain) →
    ∃ t, exec .fetchResult s = .next t
      ∧ (∀ target : Chan → Bool,
          (classify bytes = .blank ∧ target = fun _ => false)
            ∨ (∃ x, classify bytes = .written x ∧ target = fun c => x.has c) →
          t = { s with
            channels := t.channels
            drive := { s.drive with queue := t.drive.queue }
            relay := t.relay
            ops := { list := rest, driving := t.ops.driving }
            store := { s.store with fetch := none }
            link := s.link.withdrawHold
            journal := t.journal }
          ∧ Planned e target s t)
      ∧ (classify bytes = .corrupt →
          t = { s with
            ops := {
              list := (s.ops.dropRef s.journal.next).list.tail
              driving := (s.ops.dropRef s.journal.next).driving }
            store := { s.store.dropRef s.journal.next with fetch := none }
            link := s.link.withdrawHold
            journal := t.journal }
          ∧ (∀ p r, p ≠ s.journal.next → openRecordAt s e.record p r →
              t.journal.records[p] = some (r.closedAs .failed (some .checkFail) s.journal.timeTag))
          ∧ (t.journal.records[s.journal.next]).map (fun r => r.subject)
              = some (.fault .checkFail (byteOf l.val) (byteOf k.val) 0 0))

/-- R28, R29: of the older entries, those removed are exactly the drive operations, WAITING or FETCHING, whose
affected set lies in the new operation's and which have no CAPTURE between them and it; the others stay in
order. -/
def Obligations.PruningRemovesCoveredEntries : Prop :=
  ∀ (n : ChanSet) (e : OpEntry) (older : List OpEntry),
    (e.body.isCapture = false → e.state ≠ .storing → (∀ c : Chan, e.affected.has c = true → n.has c = true) →
      (∀ x ∈ older, x.body.isCapture = false) →
      pruneList n (e :: older) = ((pruneList n older).1, e :: (pruneList n older).2))
    ∧ (e.body.isCapture = true ∨ e.state = .storing ∨ (∃ c : Chan, e.affected.has c = true ∧ n.has c = false)
        ∨ (∃ x ∈ older, x.body.isCapture = true) →
      pruneList n (e :: older) = (e :: (pruneList n older).1, (pruneList n older).2))
    ∧ (pruneList n older).1.Sublist older ∧ (pruneList n older).2.Sublist older
    ∧ (pruneList n older).1.length + (pruneList n older).2.length = older.length

/-! ### The combination store -/

/-- R31, R77, R85, R86, R87, R232: a fetch that waits is served once the memory is IDLE, and waits on while it is BUSY,
though a write of its slot be entered meanwhile; at the serving a slot fetch takes the data of the newest write-queue
entry for its slot, else the 8 bytes of the memory, and an image read always reads the memory. The result of a service
read begins its OK reply, a SLOT READ's with the classification after the bytes; a result without a FETCHING RECALL at
the head is discarded; the fetch path is then free, and a RECALL that waited at the head for it has its own fetch
issued. (The model's choices: a FETCH_SERVE without its conditions changes nothing, log 1; what follows the end of a
write stands within that event, and a FETCH_SERVE issues no write, log 16; the mark of the RECALL that waits, log 17.) -/
def Obligations.FetchesAreServedAndDelivered : Prop :=
  ∀ (s : State) (req : FetchReq),
    (s.store.fetch = some { req := req, result := none } →
      let served := fun bytes => { s with store := { s.store with
        fetch := some { req := req, result := some bytes } } }
      (s.store.mem = .busy → exec .fetchServe s = .next s)
      ∧ (s.store.mem = .idle →
        (∀ l k, req = .recall l k ∨ req = .slotRead l k →
          (∀ older e newer, s.store.queue = older ++ e :: newer → e.target = .slot l k →
            (∀ x ∈ newer, x.target ≠ .slot l k) → exec .fetchServe s = .next (served e.data))
          ∧ ((∀ x ∈ s.store.queue, x.target ≠ .slot l k) →
            exec .fetchServe s = .next (served (memReadRange s.memory (slotAddress l k) 8))))
        ∧ (∀ off len, req = .imageRead off len →
            exec .fetchServe s = .next (served (memReadRange s.memory off len)))))
    ∧ ∀ bytes : List Byte, s.store.fetch = some { req := req, result := some bytes } →
      let freed := { s with store := { s.store with fetch := none } }
      let reply := fun data => { freed with port := { s.port with
        state := .replying
        reply := replyBytes .ok data
        replyUs := 0 } }
      ((∀ e ∈ s.ops.list, e.asked = false) →
        (∀ l k, req = .slotRead l k →
          exec .fetchResult s = .next (reply (bytes ++ [(classify bytes).byte])))
        ∧ (∀ off len, req = .imageRead off len → exec .fetchResult s = .next (reply bytes))
        ∧ (∀ l k, req = .recall l k → (∀ e, s.ops.list.head? = some e → e.state ≠ .fetching) →
          exec .fetchResult s = .next freed))
      ∧ ∀ (e : OpEntry) (rest : List OpEntry) (l : Fin 256) (k : Fin 128),
          s.ops.list = e :: rest → e.asked = true → e.state = .waiting → e.body = .recall l k →
          ∃ t f, exec .fetchResult s = .next t ∧ t.store.fetch = some f ∧ f.req = .recall l k
            ∧ t.ops.list = { e with state := .fetching, asked := false } :: rest

/-- R73, R81, R82, R83, R85: the head write is issued when it is not in flight, the memory is IDLE and no fetch waits.
At its completion its bytes stand at its target (the memory being canonical: StepKeepsStoreLaws) and every other byte
is as before, the entry leaves the queue, the memory is IDLE, STORE FAULT is dark and a capture's record closes CLOSED;
then a waiting fetch is served, one deferred mark is served, the calibration first, and the next head write is issued,
all in that one event. (The model's choices: that issue does not wait for the event of a STORING capture, log 16; the
memory holds the bytes as sent, log 27; a WRITE_ISSUE without its conditions changes nothing, log 1.) -/
def Obligations.WritesAreIssuedAndComplete : Prop :=
  ∀ (s : State) (e : WriteEntry) (rest : List WriteEntry), s.store.queue = e :: rest →
    (e.inFlight = false → s.store.mem = .idle → (∀ f, s.store.fetch = some f → f.result ≠ none) →
      exec .writeIssue s = .next { s with store := { s.store with
        queue := { e with inFlight := true } :: rest
        mem := .busy
        writeTimer := some 0 } })
    ∧ (e.inFlight = true ∨ s.store.mem = .busy ∨ (∃ f, s.store.fetch = some f ∧ f.result = none) →
      exec .writeIssue s = .next s)
    ∧ (e.inFlight = true →
      ∃ t, exec .writeComplete s = .next t
        ∧ t = { s with memory := t.memory, store := t.store, journal := t.journal }
        ∧ (∀ (n : Nat) (b : Byte), Memory.wf s.memory = true → e.data[n]? = some b →
            memRead t.memory (targetAddress e.target + n) = b)
        ∧ (∀ a, a < targetAddress e.target ∨ targetAddress e.target + e.data.length ≤ a →
            memRead t.memory a = memRead s.memory a)
        ∧ t.store.faultLit = false
        ∧ t.journal = { s.journal with records := t.journal.records }
        ∧ (∀ p r, e.capture = some p → s.journal.records[p] = some r → r.state = .opened →
            t.journal.records[p] = some { r with
              state := .closed
              outcome := none
              tClose := some s.journal.timeTag })
        ∧ (s.store.calMark = false → s.store.lockMarks = 0 →
            t.store = Store.headIssued rest { s.store with faultLit := false, fetch := t.store.fetch })
        ∧ ((∀ f, s.store.fetch = some f → f.result ≠ none) → t.store.fetch = s.store.fetch)
        ∧ (∀ req, s.store.fetch = some { req := req, result := none } →
            let served := fun bytes => some ({ req := req, result := some bytes } : Fetch)
            (∀ l k, req = .recall l k ∨ req = .slotRead l k →
              ((∀ x ∈ rest, x.target ≠ .slot l k) →
                t.store.fetch = served (memReadRange t.memory (slotAddress l k) 8))
              ∧ ∀ older x newer, rest = older ++ x :: newer → x.target = .slot l k →
                  (∀ y ∈ newer, y.target ≠ .slot l k) → t.store.fetch = served x.data)
            ∧ ∀ off len, req = .imageRead off len →
                t.store.fetch = served (memReadRange t.memory off len))
        ∧ (s.store.calMark = true → rest.length < 8 →
            ∃ left, enterQueue rest .calibration (calibrationBytes s.store.c0 s.store.c1) none = some left
              ∧ t.store = Store.headIssued left { s.store with
                  calMark := false
                  faultLit := false
                  fetch := t.store.fetch })
        ∧ (∀ n : Fin 32, s.store.calMark = false → s.store.lockMarks.getLsbD n.val = true →
            (∀ m : Fin 32, m < n → s.store.lockMarks.getLsbD m.val = false) → rest.length < 8 →
            ∃ left, enterQueue rest (.lockByte n) [lockByteOf s.store.lockCopy n] none = some left
              ∧ t.store = Store.headIssued left { s.store with
                  lockMarks := t.store.lockMarks
                  faultLit := false
                  fetch := t.store.fetch }
              ∧ ∀ m : Fin 32, t.store.lockMarks.getLsbD m.val
                  = (decide (m ≠ n) && s.store.lockMarks.getLsbD m.val)))

/-- R81, R84, R85, R86, R210: a faulted write leaves the queue and its data is lost: a slot holds a mixture of old and new bits, any
other target and every other byte is as before. The memory is IDLE, STORE FAULT is lit, the STORE_FAULT record
names the target, and a capture's record closes FAILED with that code; then a waiting fetch is served, a RECALL's or
SLOT READ's by forwarding where the queue still holds its slot, one deferred mark is served, the calibration first, and
the next head write is issued, all in that one event. (The model's choices: that issue does not wait for the event of a
STORING capture, log 16; the order of the two records, log 20; the bits of the mixture, log 7.) -/
def Obligations.StoreFaultLosesTheWrite : Prop :=
  ∀ (s : State) (e : WriteEntry) (rest : List WriteEntry), s.store.queue = e :: rest → e.inFlight = true →
    ∃ t, exec .storeFault s = .next t
      ∧ t = { s with
          memory := t.memory
          store := t.store
          journal := t.journal
          ops := s.ops.dropRef s.journal.next
          torn := t.torn }
      ∧ t.store.faultLit = true
      ∧ (s.store.calMark = false → s.store.lockMarks = 0 →
          t.store = Store.headIssued (s.store.dropRef s.journal.next).queue.tail
            { s.store with faultLit := true, fetch := t.store.fetch })
      ∧ ((∀ f, s.store.fetch = some f → f.result ≠ none) → t.store.fetch = s.store.fetch)
      ∧ (∀ req, s.store.fetch = some { req := req, result := none } →
          let served := fun bytes => some ({ req := req, result := some bytes } : Fetch)
          (∀ l k, req = .recall l k ∨ req = .slotRead l k →
            ((∀ x ∈ rest, x.target ≠ .slot l k) →
              t.store.fetch = served (memReadRange t.memory (slotAddress l k) 8))
            ∧ ∀ older x newer, rest = older ++ x :: newer → x.target = .slot l k →
                (∀ y ∈ newer, y.target ≠ .slot l k) → t.store.fetch = served x.data)
          ∧ ∀ off len, req = .imageRead off len →
              t.store.fetch = served (memReadRange t.memory off len))
      ∧ (let freed := (s.store.dropRef s.journal.next).queue.tail
        rest.length < 8 →
          (s.store.calMark = true →
            ∃ left, enterQueue freed .calibration (calibrationBytes s.store.c0 s.store.c1) none = some left
              ∧ t.store = Store.headIssued left { s.store with
                  calMark := false
                  faultLit := true
                  fetch := t.store.fetch })
          ∧ ∀ n : Fin 32, s.store.calMark = false → s.store.lockMarks.getLsbD n.val = true →
            (∀ m : Fin 32, m < n → s.store.lockMarks.getLsbD m.val = false) →
            ∃ left, enterQueue freed (.lockByte n) [lockByteOf s.store.lockCopy n] none = some left
              ∧ t.store = Store.headIssued left { s.store with
                  lockMarks := t.store.lockMarks
                  faultLit := true
                  fetch := t.store.fetch }
              ∧ ∀ m : Fin 32, t.store.lockMarks.getLsbD m.val
                  = (decide (m ≠ n) && s.store.lockMarks.getLsbD m.val))
      ∧ ((∀ l k, e.target ≠ .slot l k) → t.memory = s.memory)
      ∧ (∀ a, a < targetAddress e.target ∨ targetAddress e.target + e.data.length ≤ a →
          memRead t.memory a = memRead s.memory a)
      ∧ (∀ (n i : Nat) (b : Byte), Memory.wf s.memory = true → e.data[n]? = some b →
          let old := memRead s.memory (targetAddress e.target + n)
          let now := memRead t.memory (targetAddress e.target + n)
          now.getLsbD i = old.getLsbD i ∨ now.getLsbD i = b.getLsbD i)
      ∧ (t.journal.records[s.journal.next]).map (fun r => (r.subject, r.state))
          = some ((match e.target with
            | .slot l k => .fault .storeFault 0 (byteOf l.val) (byteOf k.val) 0
            | .lockByte n => .fault .storeFault 1 (byteOf n.val) 0 0
            | .calibration => .fault .storeFault 2 0 0 0
            | .image p a len => .fault .storeFault 3 (byteOf p.val) (byteOf a.val) (byteOf (len - 1))),
            .closed)
      ∧ t.journal.number = s.journal.number + 1
      ∧ ∀ p r, e.capture = some p → p ≠ s.journal.next → s.journal.records[p] = some r →
          r.state = .opened →
          t.journal.records[p] = some { r with
            state := .failed
            outcome := some .storeFault
            tClose := some s.journal.timeTag }

/-! ### The console link -/

/-- R148, R149, R152, R153, R155, R161, R164, R165, R167, R189: the line state at synchronisation, which ends a stall, at a
disturbance, at another station's START, at this station's own START with the frame in hand or the head of the queue (its payload
completed then), at a lost arbitration, at the STOP of a frame this station does not deliver, at a frame broken at a
receiver, and at the end of a stretch. Between frames both lines are released and no answer stands prepared. -/
def Obligations.LineEventsMoveTheLineState : Prop :=
  ∀ s : State,
    (∀ x : LineState, s.link.leaveFrame x = { s.link with
        line := x
        assembly := none
        objection := false
        hold := false
        veto := false
        stretch := none
        outLck := false
        outLda := false
        bits := []
        half := 0
        idleUs := 0
        inFrame := none })
    ∧ (s.link.line = .seeking →
        exec .synchronise s = .next { s with link := { s.link.leaveFrame .idle with stalled := false } })
    ∧ (s.link.line = .idle → exec .disturbance s = .next { s with link := s.link.leaveFrame .seeking })
    ∧ (s.link.line = .idle →
        exec .startReceiving s =
          .next { s with link := { s.link.leaveFrame .receiving with inFrame := some 0 } })
    ∧ (∀ h q, s.view.mode = .run → s.link.line = .idle →
        (s.link.hand = some h ∧ q = s.link.txq
          ∨ s.link.hand = none ∧ s.link.txq = h.frame :: q ∧ h.attempts = 0) →
        exec .frameStart s = .next { s with link := { s.link.leaveFrame .sending with
          hand := some { h with
            payload := (txMsg s.params.levelRole s.params.shoeRole s.view h.frame).payload }
          txq := q
          outLda := true
          inFrame := some 0 } })
    ∧ (s.link.line = .sending → s.link.assembly = none →
        exec .arbitrationLost s = .next { s with link := { s.link with
          line := .receiving
          outLck := false
          outLda := false
          half := 0 } })
    ∧ (∀ f, s.link.line = .receiving → s.link.assembly = some f → s.link.objection = false →
        9 < headerKind f.header ∨ frameGood f = false →
        exec .stopWithoutDelivery s = .next { s with link := s.link.leaveFrame .idle })
    ∧ (s.link.line = .receiving →
        exec .brokenFrame s = .next { s with link := s.link.leaveFrame .seeking })
    ∧ (s.link.stretch.isSome = true → s.link.hold = true →
        exec .stretchExpiry s = .next { s with link := { s.link with
          hold := false
          stretch := none
          outLck := false } })

/-- R89, R91, R156, R158, R159, R160, R165: the frame whole at its last check bit. A receiver in RUN prepares its
objection to a bad check of kinds 0–9; for a good check, and at a transmitter for its own frame, it prepares a hold
exactly when the frame needs an operation here and the list holds 8 entries, and a veto exactly when this is a
LEVEL-role station whose copy locks a CAPTURE's level. No answer is prepared outside RUN. (The model's choices: a
transmitter takes its own frame as sent, log 12; the veto is prepared here and taken again at its slot, log 13; a hold's
stretch timer starts here, and from 0 again at the fall that begins the slot, log 14; an ignored value draws no hold,
log 34.) -/
def Obligations.WholeFramePreparesItsAnswers : Prop :=
  ∀ (s : State) (f g : WireFrame) (mark : Mark), s.link.assembly = none →
    (mark = .received ∧ s.link.line = .receiving ∧ frameWholeLength f = true ∧ g = f
      ∨ mark = .transmitted ∧ s.link.line = .sending
        ∧ ∃ h, s.link.hand = some h ∧ g = wireFrame h.frame.kind s.start.station h.payload) →
    let good := mark = .transmitted ∨ frameGood g = true
    ∃ objection hold veto : Bool,
      exec (.frameReceived f) s = .next { s with link := { s.link with
        assembly := some g
        objection := objection
        hold := hold
        veto := veto
        stretch := if hold then some 0 else none } }
      ∧ (objection = true ↔ s.view.mode = .run ∧ ¬good ∧ headerKind g.header ≤ 9)
      ∧ (hold = true ↔ s.view.mode = .run ∧ good ∧ s.ops.list.length = 8
          ∧ ∃ m body, frameMsg g = some m ∧ operationOf mark m = some body ∧ affectedSet s body ≠ 0)
      ∧ (veto = true ↔ s.view.mode = .run ∧ good ∧ s.params.levelRole = true
          ∧ ∃ l k, frameMsg g = some (.capture l k) ∧ locked s.store.lockCopy l.toFin = true)

/-- R162, R163, R164, R167, R210: a transmitter counts an attempt at an objected STOP (then IDLE), a broken frame or a
stall (then SEEKING); below 3 the frame stays in hand, at the third it is dropped, LINK_FAULT is journaled with its
header and the cause, and the LINK FAULT timer starts from 0. A vetoed CAPTURE leaves hand with CAPTURE_VETOED. A
receiver of an objected or vetoed frame passes to IDLE, and a stalled line is journaled LINK_STALL at each station, once
until LCK has been high, with the header of the frame on the link where it was complete. (That header is the command's
operand until the frame is whole: the model's choice, log 31.) -/
def Obligations.FailedAttemptsAreCounted : Prop :=
  ∀ s : State,
    (∀ (h : Hand) (cmd : Instr) (cause : Byte) (x : LineState), s.link.line = .sending → s.link.hand = some h →
      (cmd = .frameNotAccepted .objected ∧ s.link.assembly.isSome = true ∧ cause = 0 ∧ x = .idle
        ∨ cmd = .brokenFrame ∧ cause = 1 ∧ x = .seeking) →
      (h.attempts < 2 →
        exec cmd s = .next { s with link := { s.link.leaveFrame x with
          hand := some { h with attempts := h.attempts + 1 } } })
      ∧ (2 ≤ h.attempts →
        ∃ t, exec cmd s = .next t
          ∧ t = { s with
              link := { s.link.leaveFrame x with hand := none, linkFault := some 0 }
              journal := t.journal
              ops := s.ops.dropRef s.journal.next
              store := s.store.dropRef s.journal.next }
          ∧ FaultJournaled .linkFault (headerByte h.frame.kind s.start.station) cause 0 0 s t))
    ∧ (∀ f, s.link.assembly = some f → headerKind f.header = 2 → s.link.objection = false →
      s.link.line = .sending →
      ∃ t, exec (.frameNotAccepted .vetoed) s = .next t
        ∧ t = { s with
            link := { s.link.leaveFrame .idle with hand := none }
            journal := t.journal
            ops := s.ops.dropRef s.journal.next
            store := s.store.dropRef s.journal.next }
        ∧ ∀ l k, f.payload = [l, k] → FaultJournaled .captureVetoed l k 0 0 s t)
    ∧ (∀ f cause, s.link.assembly = some f → s.link.line = .receiving →
      (cause = .objected ∨ headerKind f.header = 2 ∧ s.link.objection = false) →
      exec (.frameNotAccepted cause) s = .next { s with link := s.link.leaveFrame .idle })
    ∧ (∀ header, s.link.line = .off ∨ s.link.stalled = true → exec (.linkStall header) s = .next s)
    ∧ (∀ (header shown : Option Byte) (x : Byte), s.link.stalled = false →
      (s.link.line = .seeking ∧ x = 0 ∧ shown = none ∨ s.link.line = .idle ∧ x = 1 ∧ shown = none
        ∨ s.link.line = .receiving ∧ x = 2 ∧ s.link.assembly = none ∧ shown = header
        ∨ ∃ f, s.link.line = .receiving ∧ x = 2 ∧ s.link.assembly = some f ∧ shown = some f.header) →
      ∃ t, exec (.linkStall header) s = .next t
        ∧ t = { s with
            link := { s.link.leaveFrame .seeking with stall := 0, stalled := true }
            journal := t.journal
            ops := s.ops.dropRef s.journal.next
            store := s.store.dropRef s.journal.next }
        ∧ FaultJournaled .linkStall x (shown.getD 0) (boolByte shown.isSome) 0 s t)
    ∧ (∀ (h : Hand) (header shown : Option Byte), s.link.stalled = false → s.link.line = .sending →
      s.link.hand = some h →
      (s.link.assembly = none ∧ shown = header ∨ ∃ f, s.link.assembly = some f ∧ shown = some f.header) →
      let released := { s.link.leaveFrame .seeking with stall := 0, stalled := true }
      ∃ t, exec (.linkStall header) s = .next t
        ∧ t = { s with link := t.link, journal := t.journal, ops := t.ops, store := t.store }
        ∧ (h.attempts < 2 →
            t.link = { released with hand := some { h with attempts := h.attempts + 1 } }
              ∧ FaultJournaled .linkStall 3 (shown.getD 0) (boolByte shown.isSome) 0 s t)
        ∧ (2 ≤ h.attempts → t.link = { released with hand := none, linkFault := some 0 }
            ∧ (t.journal.records[s.journal.next]).map (fun r => r.subject)
              = some (.fault .linkFault (headerByte h.frame.kind s.start.station) 2 0 0)
            ∧ (t.journal.records[s.journal.next + 1]).map (fun r => r.subject)
              = some (.fault .linkStall 3 (shown.getD 0) (boolByte shown.isSome) 0)
            ∧ t.journal.number = s.journal.number + 2))

/-! ### Link messages and the console view -/

/-- R24, R25, R78, R179–R183: which operation a frame asks for (none for an ignored value and for a HANDSET this
station sent), and its affected set: MOVED and LIT channels alone, those of the slot's participation, of the
division, or of the stop number. (That a MOVED or LIT channel with stop number 1023 is in the set of a TOGGLE or MIRROR of
1023 is the model's choice, log 35.) -/
def Obligations.FramesAskForTheirOperations : Prop :=
  (∀ mark : Mark,
    operationOf mark (.cancel 0xFF) = some (.cancel .console)
      ∧ (∀ d : Fin 16, operationOf mark (.cancel (byteOf d.val)) = some (.cancel (.division d)))
      ∧ (∀ b : Byte, 16 ≤ b.toNat → b ≠ 0xFF → operationOf mark (.cancel b) = none)
      ∧ (∀ (l : Fin 256) (k : Fin 128),
          operationOf mark (.recall (byteOf l.val) (byteOf k.val)) = some (.recall l k)
            ∧ operationOf mark (.capture (byteOf l.val) (byteOf k.val)) = some (.capture l k))
      ∧ (∀ l k : Byte, 128 ≤ k.toNat →
          operationOf mark (.recall l k) = none ∧ operationOf mark (.capture l k) = none)
      ∧ (∀ stop : Fin 1024,
          operationOf mark (.toggle 0 stop) = some (.toggle stop .flip)
            ∧ operationOf mark (.toggle 1 stop) = some (.toggle stop .on)
            ∧ operationOf mark (.toggle 2 stop) = some (.toggle stop .off)
            ∧ operationOf mark (.toggle 3 stop) = none)
      ∧ ∀ (stop : Fin 1024) (on : Bool), operationOf mark (.handset on stop) =
          if mark = .received then some (.mirror stop on) else none)
  ∧ ∀ (s : State) (c : Chan), let x := s.channels[c]
    (∀ (l : Fin 256) (k : Fin 128) (body : OpBody), body = .recall l k ∨ body = .capture l k →
      let mode := s.params.participation[k].toNat / 64
      let d := s.params.participation[k].toNat % 16
      ((affectedSet s body).has c = true ↔
        x.type ≠ .plain ∧ (mode = 1 ∨ mode = 2 ∧ x.division.val = d)))
    ∧ ((affectedSet s (.cancel .console)).has c = true ↔ x.type ≠ .plain)
    ∧ (∀ d, (affectedSet s (.cancel (.division d))).has c = true ↔ x.type ≠ .plain ∧ x.division = d)
    ∧ (∀ stop a, (affectedSet s (.toggle stop a)).has c = true ↔ x.type ≠ .plain ∧ x.stop = stop)
    ∧ ∀ stop on, (affectedSet s (.mirror stop on)).has c = true ↔ x.type ≠ .plain ∧ x.stop = stop

/-- R26–R29, R161, R177, R179–R183, R195, R198, R205, R208: the STOP of an accepted CANCEL, RECALL, CAPTURE, HANDSET or
TOGGLE, of any station. In every mode a RECALL or CAPTURE of a slot below 80h sets the view's level and last recall. In
SAFE nothing else comes of it but the link, the roster and, for a duplicate, its record. In RUN and LISTEN, with an empty affected set
the list stays; with room in the list the operation stands at its tail and the covered older entries are pruned; with 8
entries there OP_DROPPED is journaled. From a listed station nothing more changes: the operation's OPEN record is the
newest unless its kind is filtered, and the pruned operations close SUPERSEDED. (What a new station and a duplicate
bring besides is stated apart.) -/
def Obligations.OperationFramesAppendOrDrop : Prop :=
  ∀ (s : State) (cmd : Instr) (mark : Mark) (f : WireFrame) (m : Msg),
    Accepted s mark f m →
    (∃ b, m = .cancel b ∧ cmd = .cancelFrame)
      ∨ (∃ l k, m = .recall l k ∧ cmd = .recallFrame)
      ∨ (∃ l k, m = .capture l k ∧ cmd = .captureFrame)
      ∨ (∃ on stop, m = .handset on stop ∧ cmd = .handsetFrame)
      ∨ (∃ a stop, m = .toggle a stop ∧ cmd = .toggleFrame) →
    let u := heard s mark f m
    let next := s.journal.next
    ∃ t, exec cmd s = .next t
      ∧ t.view = { u.view with
          level := t.view.level
          lastRecall := t.view.lastRecall
          duplicateSeen := t.view.duplicateSeen
          mode := t.view.mode }
      ∧ (∀ l k, m = .recall l k ∨ m = .capture l k → k.toNat < 128 →
          t.view.level = l.toFin ∧ t.view.lastRecall = some (l.toFin, Fin.ofNat 128 k.toNat))
      ∧ ((∀ l k, m = .recall l k ∨ m = .capture l k → 128 ≤ k.toNat) →
          t.view.level = s.view.level ∧ t.view.lastRecall = s.view.lastRecall)
      ∧ (working s = false ∨ operationOf mark m = none
            ∨ (∃ body, operationOf mark m = some body ∧ affectedSet s body = 0) →
          unreferenced t.ops.list = unreferenced s.ops.list
            ∧ (FromListedStation s mark f m → t = { u with view := t.view } ∧ t.view.mode = s.view.mode
              ∧ t.view.duplicateSeen = s.view.duplicateSeen))
      ∧ ∀ body, working s = true → operationOf mark m = some body → affectedSet s body ≠ 0 →
          (8 ≤ s.ops.list.length →
            unreferenced t.ops.list = unreferenced s.ops.list
              ∧ (t.journal.records[next]).map (fun r => r.subject) = some (.fault .opDropped f.header 0 0 0)
              ∧ (FromListedStation s mark f m →
                t = { u with view := t.view, ops := s.ops.dropRef next, store := s.store.dropRef next, journal := t.journal }
                  ∧ FaultJournaled .opDropped f.header 0 0 0 s t))
          ∧ (s.ops.list.length < 8 →
            let kept := filtered body s
            let covered := fun l : List OpEntry =>
              if body.isCapture || body.isFlip then (l, []) else pruneList (affectedSet s body) l
            let entry := fun ref : Option (Fin 32) => ({
                body := body
                origin := headerOrigin f.header
                affected := affectedSet s body
                state := .waiting
                asked := false
                record := ref } : OpEntry)
            unreferenced t.ops.list = unreferenced (covered s.ops.list).1 ++ [entry none]
              ∧ (kept = false →
                  (t.journal.records[next]).map (fun r => (r.subject, r.origin, r.state))
                    = some (body.subject, headerOrigin f.header, .opened))
              ∧ (FromListedStation s mark f m →
                let older := if kept then s.ops else s.ops.dropRef next
                t = { u with
                    view := t.view
                    ops := {
                      list := (covered older.list).1 ++ [entry (if kept then none else some next)]
                      driving := older.driving }
                    store := if kept then s.store else s.store.dropRef next
                    journal := t.journal }
                  ∧ (kept = false →
                      t.journal.records[next] = some (operationRecord body (headerOrigin f.header) s)
                        ∧ t.journal.number = s.journal.number + 1)
                  ∧ (kept = true → t.journal.number = s.journal.number)
                  ∧ ∀ e ∈ (covered older.list).2, ∀ p r, openRecordAt s e.record p r →
                      t.journal.records[p] = some (r.closedAs .superseded none s.journal.timeTag)))

/-- R101, R115, R118, R161, R175, R177, R184–R186, R188, R193, R195, R198: the STOP of an accepted TUTTI, STAGE, SETTER or
ANNOUNCE, of any station, sets the fields its kind names and no other but those of a duplicate; a change of tutti,
program or stage recomposes the speaking set in RUN and LISTEN; a release of the setter abandons the calibration
procedure; the station's own ANNOUNCE clears fresh. From a listed station nothing more changes. (What a new station and a
duplicate bring besides is stated apart.) -/
def Obligations.ViewFramesSetTheirFields : Prop :=
  ∀ (s : State) (mark : Mark) (f : WireFrame) (m : Msg), Accepted s mark f m →
    let u := heard s mark f m
    let listed := FromListedStation s mark f m
    let same := fun t : State =>
      t = { s with
        view := t.view
        relay := t.relay
        link := t.link
        ops := t.ops
        store := { s.store with queue := t.store.queue }
        cresc := t.cresc
        pistons := { s.pistons with seqEnd := t.pistons.seqEnd }
        flashes := { s.flashes with seqEnd := t.flashes.seqEnd }
        journal := t.journal }
      ∧ unreferenced t.ops.list = unreferenced s.ops.list
    let seen := fun (v : View) (t : State) => t.view = { v with
      duplicateSeen := t.view.duplicateSeen
      mode := t.view.mode }
    (∀ on, m = .tutti on →
      let v := { u.view with tutti := on, tuttiOrigin := some (headerOrigin f.header) }
      ∃ t, exec .tuttiFrame s = .next t ∧ same t ∧ seen v t
        ∧ t.relay = (if s.view.tutti ≠ on ∧ working s = true then s.relay.compose (composedSet t)
            else s.relay)
        ∧ (listed → t = { u with view := v, relay := t.relay }))
    ∧ (∀ (p : Fin 4) (raw : Fin 64) (stage : Fin 60), m = .stage p raw → stage.val = min 59 raw.val →
      let v := { u.view with program := p, stage := stage }
      ∃ t, exec .stageFrame s = .next t ∧ same t ∧ seen v t
        ∧ t.relay = (if (s.view.program ≠ p ∨ s.view.stage ≠ stage) ∧ working s = true then
              s.relay.compose (composedSet t)
            else s.relay)
        ∧ (listed → t = { u with view := v, relay := t.relay }))
    ∧ (∀ armed, m = .setter armed →
      let v := { u.view with setter := armed }
      ∃ t, exec .setterFrame s = .next t ∧ same t ∧ seen v t ∧ t.relay = s.relay
        ∧ (s.view.setter = true → armed = false → t.cresc.procedure = none)
        ∧ (listed → t = { u with
            view := v
            cresc := if s.view.setter = true ∧ armed = false then { s.cresc with procedure := none }
              else s.cresc }))
    ∧ (∀ (levelRole shoeRole fresh : Bool) (l : Byte), m = .announce levelRole shoeRole fresh l →
      let v := { u.view with
        level := if levelRole = true ∧ fresh = false then l.toFin else s.view.level
        fresh := if mark = .transmitted then false else s.view.fresh }
      ∃ t, exec .announceFrame s = .next t ∧ same t ∧ seen v t ∧ t.relay = s.relay
        ∧ (listed → t = { u with view := v }))

/-- R187: an accepted LEVEL, of any station: the view's level becomes the frame's, the last recall is not changed,
the level display and the LOCKED indicator of a LEVEL-role station follow, and no other block is handed the
frame. (From a listed station nothing else changes but the link and the roster; what a new station and a
duplicate bring besides is stated apart.) -/
def Obligations.LevelFrameSetsTheLevel : Prop :=
  ∀ (s : State) (mark : Mark) (f : WireFrame) (l : Byte), Accepted s mark f (.level l) →
    ∃ t, exec .levelFrame s = .next t
      ∧ t.view.level = l.toFin ∧ t.view.lastRecall = s.view.lastRecall
      ∧ (s.params.levelRole = true → working s = true → ∀ n : Fin 8, levelLine t n = l.getLsbD n.val)
      ∧ (s.params.levelRole = true → fnLit t .locked = locked s.store.lockCopy l.toFin)
      ∧ (FromListedStation s mark f (.level l) →
          t = { heard s mark f (.level l) with
            view := { (heard s mark f (.level l)).view with level := l.toFin } })

/-- R110, R161, R163, R177, R190–R195: every delivery lists the origin or brings its entry up to date and judges READY,
and the next state shows it; the link is IDLE with a transmitter's frame out of hand. At a station in RUN a new or
renewed station other than itself draws, in this order, its ANNOUNCE, at a shoe station a STAGE of the held pair with the
interval started, and at the last tutti origin a TUTTI re-send; outside RUN, and for a station already listed and not
fresh, nothing is handed over. (That the own number's fresh ANNOUNCE, a duplicate's, renews the own entry is the model's
reading, log 21.) -/
def Obligations.DeliveryListsAndGreets : Prop :=
  ∀ (s : State) (mark : Mark) (f : WireFrame) (m : Msg), Accepted s mark f m →
    let origin := headerOrigin f.header
    let tag := s.journal.timeTag
    let link := { s.link.leaveFrame .idle with
      hand := if mark = .transmitted then none else s.link.hand }
    let isNew := mark = .received ∧ origin ≠ s.start.station
      ∧ (s.view.roster[origin] = none ∨ isFresh m = true)
    ∃ t, exec (frameCommand m.kind) s = .next t
      ∧ (∀ n : Station, n ≠ origin → t.view.roster[n] = s.view.roster[n])
      ∧ (∃ e, t.view.roster[origin] = some e ∧ e.lastHeard = tag
          ∧ (s.view.roster[origin] = none →
              e.firstHeard = tag
                ∧ (mark = .transmitted →
                    e.levelRole = s.params.levelRole ∧ e.shoeRole = s.params.shoeRole)
                ∧ (mark = .received → (∀ lr sr fr l, m ≠ .announce lr sr fr l) →
                    e.levelRole = false ∧ e.shoeRole = false))
          ∧ (∀ o, s.view.roster[origin] = some o →
              (isFresh m = false → e.firstHeard = o.firstHeard)
                ∧ ((∀ lr sr fr l, m ≠ .announce lr sr fr l) →
                    e.levelRole = o.levelRole ∧ e.shoeRole = o.shoeRole))
          ∧ (∀ lr sr fr l, mark = .received → m = .announce lr sr fr l →
              e.levelRole = lr ∧ e.shoeRole = sr ∧ (fr = true → e.firstHeard = tag)))
      ∧ t.view.ready = (if s.params.levelRole then rosterMeetsMask t else s.view.ready)
      ∧ (mark = .transmitted ∨ origin ≠ s.start.station → t.view.mode = s.view.mode)
      ∧ (mark = .transmitted ∨ origin ≠ s.start.station → ¬isNew ∨ s.view.mode ≠ .run →
          t.link = link ∧ t.cresc.lastSent = s.cresc.lastSent ∧ t.cresc.interval = s.cresc.interval)
      ∧ ∀ q1 q2 q3, isNew → s.view.mode = .run → coalesce s.link.txq .announce = some q1 →
          (if s.params.shoeRole then coalesce q1 (.stage s.cresc.program s.cresc.stage) else some q1)
            = some q2 →
          (if s.view.tuttiOrigin = some s.start.station ∧ ∀ on, m ≠ .tutti on then
              coalesce q2 .tuttiResend
            else some q2) = some q3 →
          t.link = { link with txq := q3 }
            ∧ (s.params.shoeRole = true → t.cresc.lastSent = heldPair s ∧ t.cresc.interval = some 0)
            ∧ (s.params.shoeRole = false →
                t.cresc.lastSent = s.cresc.lastSent ∧ t.cresc.interval = s.cresc.interval)

/-- R132, R172, R177, R194, R195, R197, R236: the delivery of a received frame that bears this station's own number. In RUN
DUPLICATE_ID is journaled and the station enters LISTEN: its queue is emptied, its frame in hand dropped, its
sequence-end and STAGE interval timers stopped, its calibration procedure abandoned; in SAFE the first one is
journaled and the mode stays. A later one, and any in LISTEN, is delivered as another station's frame is and does nothing
more: no record of DUPLICATE_ID comes into the journal. -/
def Obligations.DuplicateFrameEndsInListen : Prop :=
  ∀ (s : State) (f : WireFrame) (m : Msg), Accepted s .received f m →
    headerOrigin f.header = s.start.station →
    let delivered := effect .received f.header m (heard s .received f m)
    ∃ t, exec (frameCommand m.kind) s = .next t
      ∧ (s.view.duplicateSeen = false → s.view.mode = .run ∨ s.view.mode = .safe →
          t.view.duplicateSeen = true
            ∧ FaultJournaled .duplicateId 0 f.header 0 0 delivered t)
      ∧ (s.view.duplicateSeen = false → s.view.mode = .run →
          t.view.mode = .listen ∧ t.link.txq = [] ∧ t.link.hand = none ∧ t.pistons.seqEnd = none
            ∧ t.flashes.seqEnd = none ∧ t.cresc.procedure = none ∧ t.cresc.interval = none)
      ∧ (s.view.mode ≠ .run → t.view.mode = s.view.mode ∧ t.link.txq = s.link.txq
          ∧ t.link.hand = s.link.hand)
      ∧ (s.view.duplicateSeen = true ∨ s.view.mode = .listen →
          t = delivered ∧ t.view.duplicateSeen = s.view.duplicateSeen ∧ t.view.mode = s.view.mode
            ∧ ∀ (p : Fin 32) (b : Byte),
                (t.journal.records[p]).map (fun r => r.subject) = some (.fault .duplicateId 0 b 0 0) →
                (s.journal.records[p]).map (fun r => r.subject) = some (.fault .duplicateId 0 b 0 0))

/-! ### The service line -/

/-- R226, R227, R229: the service port at an arrival in each of its states, framing errors among them; at the gap
timer's 50 ms, which ends a command (a bad, overlong or unknown one is answered BADCMD, a good one has the effect of
its own command) or the discarding; and at the end of a reply. -/
def Obligations.PortTakesBytesAndEndsReplies : Prop :=
  ∀ (s : State) (b : Byte) (framed : Bool),
    (∃ p : Port, exec (.serviceByteArrival b framed) s = .next { s with port := p }
      ∧ p = { s.port with
          state := p.state
          assembly := p.assembly
          bad := p.bad
          overlong := p.overlong
          arrived := p.arrived
          gap := some 0 }
      ∧ (s.port.state = .listening →
          p.state = .assembling ∧ p.assembly = (if framed then [b] else []) ∧ p.bad = !framed
            ∧ p.overlong = false ∧ p.arrived = s.port.arrived)
      ∧ (s.port.state ≠ .listening → p.state = s.port.state)
      ∧ (s.port.state = .assembling →
          p.assembly = (if framed = true ∧ s.port.assembly.length < 72 then s.port.assembly ++ [b]
            else s.port.assembly)
            ∧ p.bad = (s.port.bad || !framed)
            ∧ p.overlong = (s.port.overlong || (framed && decide (72 ≤ s.port.assembly.length)))
            ∧ p.arrived = s.port.arrived)
      ∧ (s.port.state = .executing ∨ s.port.state = .replying →
          p.assembly = s.port.assembly ∧ p.bad = s.port.bad ∧ p.overlong = s.port.overlong
            ∧ p.arrived = true)
      ∧ (s.port.state = .discarding → p = { s.port with gap := some 0 }))
    ∧ (s.port.state = .discarding →
        exec .gapTimerExpiry s = .next { s with port := { s.port with state := .listening } })
    ∧ (s.port.state = .listening ∨ s.port.state = .executing ∨ s.port.state = .replying →
        exec .gapTimerExpiry s = .next s)
    ∧ (s.port.state = .assembling →
        (s.port.bad = true ∨ s.port.overlong = true ∨ judgeCommand s.port.assembly = none →
          exec .gapTimerExpiry s = .next (answered .badcmd [] s))
        ∧ (∀ c : ServiceCmd, c.legal = true → s.port.bad = false → s.port.overlong = false →
          s.port.assembly = withSum (commandBody c) →
          exec .gapTimerExpiry s = .next (takeCommand c { s with port := s.port.judged })))
    ∧ (s.port.state = .replying → ∃ x : PortState,
        exec .replyEnd s = .next { s with port := { s.port with
          state := x
          arrived := false
          reply := []
          replyUs := 0 } }
        ∧ (x = .discarding ↔ s.port.arrived = true ∧ ∃ n, s.port.gap = some n ∧ n < 50)
        ∧ (x = .discarding ∨ x = .listening))

/-- R209, R211, R212, R216, R219, R228–R231: IDENT, STATUS, CHANNELS and JOURNAL given whole begin their replies in the
taking event and change nothing but the port. A reply is its status, its data and the byte that brings the sum to 00h. The
STATUS groups and CHANNELS carry the items of their tables in order, absent values as FFh, named states by position;
CHANNELS is BUSY in STARTING; a group above 5 is BADCMD; JOURNAL k reads the record k back from the newest, in its 30
bytes, or the layout of no record. (The model's choices: a command comes whole, log 18; the roles as one byte, the items
of SAFE, absent counts and kinds, the lock flag, 01h for on, set and pressed, log 19; the values before the load event,
which are sent as absent, log 4, the READY condition and the lock flag of group 1 too, log 37.) -/
def Obligations.ReportsAnswerAsTabled : Prop :=
  ∀ (s : State) (g k : Byte),
    let p := s.params
    let v := s.view
    let loaded := s.start.outcome.isSome
    let applied := s.start.outcome.isSome && !s.start.safe
    let ifLoaded := fun (here : Bool) (n : Nat) => if here then byteOf n else (0xFF : Byte)
    let optional := fun o : Option Nat => (o.map byteOf).getD 0xFF
    let modeAt := match v.mode with | .starting => 0 | .run => 1 | .listen => 2 | .safe => 3
    let lineAt := match s.link.line with
      | .off => 0 | .seeking => 1 | .idle => 2 | .receiving => 3 | .sending => 4
    let supplyAt := match s.drive.supply with | .present => 0 | .lost => 1 | .waiting => 2 | .unsampled => 3
    let outcomeAt := fun o : ImageOutcome =>
      match o with | .passed => 0 | .signature => 1 | .length => 2 | .check => 3
    let kindAt := fun b : OpBody => match b with
      | .recall _ _ => 0 | .capture _ _ => 1 | .cancel _ => 2 | .toggle _ _ => 3 | .mirror _ _ => 4
    let entryAt := fun x : OpState => match x with | .waiting => 0 | .fetching => 1 | .storing => 2
    let rateAt := match p.rate with | .slow => 0 | .medium => 1 | .fast => 2
    let typeAt := fun x : ChanType => match x with | .plain => 0 | .moved => 1 | .lit => 2
    let driveAt := fun x : Drive => match x with
      | .idle => 0 | .queued => 1 | .energized _ _ _ _ => 2 | .settling _ _ _ => 3 | .held _ _ => 4
    (PortFree [0x01] s → exec .ident s =
      .next (answered .ok [0x5C, 0x30, 0x01, byteOf s.start.station.val] s))
    ∧ (PortFree [0x02, g] s →
        (∀ group : Fin 6, g.toNat = group.val →
          exec (.status g) s = .next (answered .ok (statusData group s) s))
        ∧ (6 ≤ g.toNat → exec (.status g) s = .next (answered .badcmd [] s)))
    ∧ (PortFree [0x03] s → exec .channels s =
        .next (if s.view.mode = .starting then answered .busy [] s else answered .ok (channelsData s) s))
    ∧ (PortFree [0x04, k] s → exec (.journal k) s = .next (answered .ok (journalData k.toNat s) s))
    ∧ (∀ (st : Status) (data : List Byte), ∃ x : Byte,
        replyBytes st data = st.byte :: (data ++ [x]) ∧ (replyBytes st data).foldl (· + ·) 0 = 0
          ∧ st.byte = match st with | .ok => 0 | .busy => 1 | .badcmd => 2 | .notRole => 3)
    ∧ statusData 0 s =
        [byteOf s.start.station.val, boolByte s.start.safeStrap, byteOf modeAt,
          optional (s.start.outcome.map outcomeAt),
          ifLoaded applied ((if p.levelRole then 1 else 0) + (if p.shoeRole then 2 else 0)),
          ifLoaded applied p.p, ifLoaded applied p.tmax, ifLoaded applied p.tover, ifLoaded applied p.tsettle,
          ifLoaded loaded p.contactTdb, ifLoaded applied p.pistonTdb, ifLoaded loaded rateAt,
          ifLoaded applied p.g, ifLoaded applied p.s, ifLoaded applied p.h,
          ifLoaded applied (p.mask.toNat / 256), ifLoaded applied p.mask.toNat, ifLoaded applied p.filter.toNat]
        ++ (List.finRange 8).map (fun n => ifLoaded loaded (indicatorCode p.indicators[n]))
        ++ [byteOf (s.journal.timeTag.toNat / 256), byteOf s.journal.timeTag.toNat, boolByte v.duplicateSeen]
    ∧ statusData 1 s =
        [byteOf v.level.val, optional (v.lastRecall.map (fun r => r.1.val)),
          optional (v.lastRecall.map (fun r => r.2.val)), boolByte v.setter, boolByte v.tutti,
          optional (v.tuttiOrigin.map (fun o => o.val)), byteOf v.program.val, byteOf v.stage.val,
          boolByte v.fresh, if p.levelRole then boolByte v.ready else 0xFF,
          if p.levelRole then boolByte (locked s.store.lockCopy v.level) else 0xFF]
    ∧ statusData 2 s = byteOf ((List.finRange 16).filter (fun n => v.roster[n].isSome)).length
        :: (List.finRange 16).flatMap (fun n => match v.roster[n] with
          | none => []
          | some e => [byteOf n.val, boolByte e.levelRole, boolByte e.shoeRole]
              ++ wordBytes e.firstHeard ++ wordBytes e.lastHeard)
    ∧ statusData 3 s =
        [byteOf s.ops.list.length, optional (s.ops.list.head?.map (fun e => kindAt e.body)),
          optional (s.ops.list.head?.map (fun e => entryAt e.state))]
        ++ (match s.ops.driving with
          | none => 0 :: List.replicate 11 0xFF
          | some d => [1, byteOf (kindAt d.body)] ++ wordBytes d.counts.planned ++ wordBytes d.counts.done
              ++ wordBytes d.counts.yielded ++ wordBytes d.counts.retries ++ wordBytes d.counts.carried)
        ++ [byteOf s.drive.queue.length, byteOf (energizedCount s), byteOf (heldCount s), byteOf supplyAt,
          byteOf (faultedCount s)]
    ∧ statusData 4 s =
        [byteOf s.store.queue.length,
          byteOf (((List.finRange 32).filter (fun n => s.store.lockMarks.getLsbD n.val)).length
            + (if s.store.calMark then 1 else 0)),
          boolByte s.store.fetch.isSome, boolByte (decide (s.store.mem = .busy)), boolByte s.store.faultLit,
          byteOf lineAt, byteOf s.link.txq.length, boolByte s.link.hand.isSome,
          optional (s.link.hand.map (fun h => h.frame.kind)),
          (s.link.hand.map (fun h => byteOf h.attempts)).getD 0, boolByte s.link.stretch.isSome,
          boolByte s.link.linkFault.isSome]
    ∧ statusData 5 s =
        natBytes s.store.c0.val ++ natBytes s.store.c1.val
        ++ [boolByte (decide (s.cresc.cal = .faulted)), boolByte s.cresc.procedure.isSome]
        ++ (match s.cresc.procedure with | none => [0xFF, 0xFF] | some c => natBytes c.val)
        ++ [byteOf s.cresc.program.val, byteOf s.cresc.stage.val, byteOf s.cresc.lastSent.1.val,
          byteOf s.cresc.lastSent.2.val, boolByte s.cresc.interval.isSome]
        ++ (List.finRange 32).map (fun n => boolByte s.pistons.inputs[n].pressed)
    ∧ channelsData s = (List.finRange 48).flatMap (fun c =>
        [byteOf (typeAt s.channels[c].type), boolByte s.channels[c].registered,
          boolByte s.channels[c].contact, boolByte (s.relay.speaking.has c),
          byteOf (driveAt s.channels[c].drive), boolByte s.channels[c].fault])
    ∧ (k.toNat < 32 → k.toNat < s.journal.held →
        ∀ (q : Fin 32) (r : Record), (q.val + 1 + k.toNat) % 32 = s.journal.next.val →
          s.journal.records[q] = some r → journalData k.toNat s = r.bytes)
    ∧ (32 ≤ k.toNat ∨ s.journal.held ≤ k.toNat →
        journalData k.toNat s = [0, 0, 0xFF] ++ List.replicate 27 0)
    ∧ ∀ r : Record,
        let kind := match r.subject with
          | .recall _ _ => 0 | .capture _ _ => 1 | .cancel _ => 2 | .toggle _ => 3 | .mirror _ => 4
          | .fault _ _ _ _ _ => 5
        let state := match r.state with
          | .opened => 0 | .closed => 1 | .superseded => 2 | .failed => 3 | .dropped => 4
        let code := match r.subject, r.outcome with
          | .fault c _ _ _ _, _ => c.value
          | _, some c => c.value
          | _, none => 0
        let place := fun n => match r.counts.faultList[n]? with
          | some c => byteOf c.val
          | none => 0xFF
        r.bytes = wordBytes r.number ++ [byteOf kind, byteOf state, byteOf r.origin.val, byteOf code]
          ++ (match r.subject with
            | .recall l n => [byteOf l.val, byteOf n.val, 0, 0]
            | .capture l n => [byteOf l.val, byteOf n.val, 0, 0]
            | .cancel .console => [0xFF, 0, 0, 0]
            | .cancel (.division d) => [byteOf d.val, 0, 0, 0]
            | .toggle n => [byteOf (n.val / 256), byteOf n.val, 0, 0]
            | .mirror n => [byteOf (n.val / 256), byteOf n.val, 0, 0]
            | .fault _ p0 p1 p2 p3 => [p0, p1, p2, p3])
          ++ wordBytes r.counts.planned ++ wordBytes r.counts.done ++ wordBytes r.counts.yielded
          ++ wordBytes r.counts.retries ++ wordBytes r.counts.carried
          ++ [place 0, place 1, place 2, place 3, byteOf r.counts.further.toNat, boolByte r.tClose.isSome]
          ++ wordBytes r.tOpen ++ (match r.tClose with | none => [0, 0] | some t => wordBytes t)
        ∧ r.bytes.length = 30

/-- R79, R80, R85, R88, R227, R228, R230, R232, R233: SLOT READ and IMAGE READ given whole become the fetch path's request,
the port EXECUTING, and are BUSY while a fetch is in flight; SLOT WRITE and IMAGE WRITE are entered by the rule of the
write queue (CaptureEntersItsSnapshot) and answered OK, an image write across a page boundary as two entries or none, or
have no place and are answered BUSY; LOCK at a LEVEL-role station in RUN or LISTEN sets the level's flag and no other,
and is NOTROLE elsewhere. In STARTING each is BUSY; out of range each is BADCMD. (The model's choices: a command comes
whole, and is taken where the port is free for it, log 18; of two pages the lower is entered first, log 33.) -/
def Obligations.StoreCommandsReadWriteAndLock : Prop :=
  ∀ (s : State) (l k n : Byte) (data : List Byte) (offset : Word),
    (∀ (cmd : Instr) (body : List Byte) (req : FetchReq), PortFree body s →
      (cmd = .slotRead l k ∧ body = [0x05, l, k] ∧ k.toNat < 128
          ∧ req = .slotRead l.toFin (Fin.ofNat 128 k.toNat)
        ∨ cmd = .imageRead offset n ∧ body = [0x07] ++ wordBytes offset ++ [n]
          ∧ 1 ≤ n.toNat ∧ n.toNat ≤ 64 ∧ offset.toNat + n.toNat ≤ 0x400
          ∧ req = .imageRead offset.toNat n.toNat) →
      (s.view.mode = .starting ∨ s.store.fetch ≠ none → exec cmd s = .next (answered .busy [] s))
      ∧ (s.view.mode ≠ .starting → s.store.fetch = none →
        exec cmd s = .next { s with
          port := { s.port.judged with state := .executing }
          store := { s.store with fetch := some { req := req, result := fetchData req s } } }))
    ∧ (∀ (cmd : Instr) (body : List Byte), PortFree body s → s.store.queue.length ≤ 8 →
      (cmd = .slotWrite l k data ∧ body = [0x06, l, k] ++ data ∧ k.toNat < 128 ∧ data.length = 8
        ∨ cmd = .imageWrite offset data ∧ body = [0x08] ++ wordBytes offset ++ [byteOf data.length] ++ data
          ∧ 1 ≤ data.length ∧ data.length ≤ 64 ∧ offset.toNat + data.length ≤ 0x400) →
      (s.view.mode = .starting → exec cmd s = .next (answered .busy [] s))
      ∧ (∀ (t : Target) (more : Option (Target × List Byte)) (first : List Byte), s.view.mode ≠ .starting →
        (cmd = .slotWrite l k data ∧ t = .slot l.toFin (Fin.ofNat 128 k.toNat) ∧ first = data ∧ more = none
          ∨ (∃ (page : Fin 4) (offs : Fin 256), cmd = .imageWrite offset data
              ∧ offset.toNat = page.val * 256 + offs.val
              ∧ (offs.val + data.length ≤ 256 ∧ t = .image page offs data.length ∧ first = data ∧ more = none
                ∨ ∃ next : Fin 4, next.val = page.val + 1 ∧ 256 < offs.val + data.length
                    ∧ t = .image page offs (256 - offs.val) ∧ first = data.take (256 - offs.val)
                    ∧ more = some (.image next 0 (data.length - (256 - offs.val)),
                        data.drop (256 - offs.val))))) →
        let closed := s.journal.close (replacedCapture s.store.queue t) .superseded none
        match enterQueue s.store.queue t first none, more with
        | none, _ => exec cmd s = .next (answered .busy [] s)
        | some q, none =>
          exec cmd s = .next (answered .ok [] { s with store := { s.store with queue := q }, journal := closed })
        | some q, some (t2, second) =>
          match enterQueue q t2 second none with
          | none => exec cmd s = .next (answered .busy [] s)
          | some q2 =>
            exec cmd s = .next (answered .ok [] { s with
              store := { s.store with queue := q2 }
              journal := closed.close (replacedCapture q t2) .superseded none })))
    ∧ (∀ (state : Byte) (on : Bool), PortFree [0x09, l, state] s → state = boolByte on →
      (s.view.mode = .starting → exec (.serviceLock l state) s = .next (answered .busy [] s))
      ∧ (s.view.mode = .safe ∨ (working s = true ∧ s.params.levelRole = false) →
        exec (.serviceLock l state) s = .next (answered .notRole [] s))
      ∧ (working s = true → s.params.levelRole = true →
        ∃ u, exec (.serviceLock l state) s = .next (answered .ok [] u)
          ∧ u = { s with store := u.store, journal := u.journal }
          ∧ u.store = { s.store with
              lockCopy := u.store.lockCopy
              queue := u.store.queue
              lockMarks := u.store.lockMarks }
          ∧ (∀ x : Fin 256, locked u.store.lockCopy x =
              if x = l.toFin then on else locked s.store.lockCopy x)
          ∧ ∀ m : Fin 32, m.val = l.toNat / 8 →
              (∀ q, enterQueue s.store.queue (.lockByte m) [lockByteOf u.store.lockCopy m] none = some q →
                u.store.queue = q ∧ u.store.lockMarks = s.store.lockMarks
                  ∧ u.journal = s.journal.close (replacedCapture s.store.queue (.lockByte m)) .superseded none)
              ∧ (enterQueue s.store.queue (.lockByte m) [lockByteOf u.store.lockCopy m] none = none →
                u.store.queue = s.store.queue ∧ u.journal = s.journal
                  ∧ ∀ y : Fin 32, u.store.lockMarks.getLsbD y.val
                      = (decide (y = m) || s.store.lockMarks.getLsbD y.val))))
    ∧ (PortFree [0x05, l, k] s → 128 ≤ k.toNat → exec (.slotRead l k) s = .next (answered .badcmd [] s))
    ∧ (PortFree [0x09, l, k] s → 2 ≤ k.toNat → exec (.serviceLock l k) s = .next (answered .badcmd [] s))
    ∧ (PortFree ([0x07] ++ wordBytes offset ++ [n]) s →
        n.toNat = 0 ∨ 64 < n.toNat ∨ 0x400 < offset.toNat + n.toNat →
        exec (.imageRead offset n) s = .next (answered .badcmd [] s))
    ∧ (PortFree ([0x06, l, k] ++ data) s → 128 ≤ k.toNat ∨ data.length ≠ 8 →
        exec (.slotWrite l k data) s = .next (answered .badcmd [] s))
    ∧ (PortFree ([0x08] ++ wordBytes offset ++ [byteOf data.length] ++ data) s →
        data.length = 0 ∨ 64 < data.length ∨ 0x400 < offset.toNat + data.length →
        exec (.imageWrite offset data) s = .next (answered .badcmd [] s))

/-- R207, R213, R224, R230, R234: RESTART given whole is BUSY in STARTING, and while the write queue holds an entry or a
deferred mark is set; otherwise its OK reply begins and every block but the journal, the time base and the reply
goes to its reset values, the straps being read again; the records of the listed and the DRIVING operations close
DROPPED. (The model's choices: the image values before the load event, log 4; the time base goes on, log 9; the command
acts whole in its taking event, log 18.) -/
def Obligations.RestartIsWarmAndGuarded : Prop :=
  ∀ s : State, PortFree [0x0A] s →
    (s.view.mode = .starting ∨ s.store.queue ≠ [] ∨ s.store.calMark = true ∨ s.store.lockMarks ≠ 0 →
      exec .restart s = .next (answered .busy [] s))
    ∧ (s.view.mode ≠ .starting → s.store.queue = [] → s.store.calMark = false → s.store.lockMarks = 0 →
      ∃ t, exec .restart s = .next t
        ∧ t = { State.reset with
            pending := s.pending
            pins := s.pins
            memory := s.memory
            start := Start.reset s.pins.straps s.pins.safeStrap
            relay := Relay.reset s.relay.pipes
            port := { Port.reset with state := .replying, reply := replyBytes .ok [] }
            journal := { s.journal with records := t.journal.records }
            time := s.time
            torn := s.torn }
        ∧ (∀ (p : Fin 32) (r : Record), s.journal.records[p] = some r → r.state = .opened →
            (∃ e ∈ s.ops.list, e.record = some p) ∨ (∃ d, s.ops.driving = some d ∧ d.record = some p) →
            t.journal.records[p] = some { r with
              state := .dropped
              outcome := none
              tClose := some s.journal.timeTag })
        ∧ ∀ p : Fin 32, (∀ e ∈ s.ops.list, e.record ≠ some p) →
            (∀ d, s.ops.driving = some d → d.record ≠ some p) →
            t.journal.records[p] = s.journal.records[p])
end

