-- ==== Sys2Proof/Laws/State.lean ====
section
/-! SUPPORT. One lemma for each field under each record update of the machine, true by unfolding. -/

namespace Sys2Proof.Machine

variable (s : State)

/-! ### setChannel -/

@[simp] theorem setChannel_pending (c : Chan) (x : Channel) : (setChannel c x s).pending = s.pending := rfl
@[simp] theorem setChannel_pins (c : Chan) (x : Channel) : (setChannel c x s).pins = s.pins := rfl
@[simp] theorem setChannel_memory (c : Chan) (x : Channel) : (setChannel c x s).memory = s.memory := rfl
@[simp] theorem setChannel_start (c : Chan) (x : Channel) : (setChannel c x s).start = s.start := rfl
@[simp] theorem setChannel_params (c : Chan) (x : Channel) : (setChannel c x s).params = s.params := rfl
@[simp] theorem setChannel_channels (c : Chan) (x : Channel) :
    (setChannel c x s).channels = s.channels.set c x := rfl
@[simp] theorem setChannel_relay (c : Chan) (x : Channel) : (setChannel c x s).relay = s.relay := rfl
@[simp] theorem setChannel_ops (c : Chan) (x : Channel) : (setChannel c x s).ops = s.ops := rfl
@[simp] theorem setChannel_drive (c : Chan) (x : Channel) : (setChannel c x s).drive = s.drive := rfl
@[simp] theorem setChannel_store (c : Chan) (x : Channel) : (setChannel c x s).store = s.store := rfl
@[simp] theorem setChannel_cresc (c : Chan) (x : Channel) : (setChannel c x s).cresc = s.cresc := rfl
@[simp] theorem setChannel_pistons (c : Chan) (x : Channel) : (setChannel c x s).pistons = s.pistons := rfl
@[simp] theorem setChannel_link (c : Chan) (x : Channel) : (setChannel c x s).link = s.link := rfl
@[simp] theorem setChannel_view (c : Chan) (x : Channel) : (setChannel c x s).view = s.view := rfl
@[simp] theorem setChannel_journal (c : Chan) (x : Channel) : (setChannel c x s).journal = s.journal := rfl
@[simp] theorem setChannel_port (c : Chan) (x : Channel) : (setChannel c x s).port = s.port := rfl
@[simp] theorem setChannel_flashes (c : Chan) (x : Channel) : (setChannel c x s).flashes = s.flashes := rfl
@[simp] theorem setChannel_time (c : Chan) (x : Channel) : (setChannel c x s).time = s.time := rfl
@[simp] theorem setChannel_torn (c : Chan) (x : Channel) : (setChannel c x s).torn = s.torn := rfl

/-! ### appendMove -/

@[simp] theorem appendMove_pending (m : Move) : (appendMove m s).pending = s.pending := rfl
@[simp] theorem appendMove_pins (m : Move) : (appendMove m s).pins = s.pins := rfl
@[simp] theorem appendMove_memory (m : Move) : (appendMove m s).memory = s.memory := rfl
@[simp] theorem appendMove_start (m : Move) : (appendMove m s).start = s.start := rfl
@[simp] theorem appendMove_params (m : Move) : (appendMove m s).params = s.params := rfl
@[simp] theorem appendMove_channels (m : Move) : (appendMove m s).channels = s.channels := rfl
@[simp] theorem appendMove_relay (m : Move) : (appendMove m s).relay = s.relay := rfl
@[simp] theorem appendMove_ops (m : Move) : (appendMove m s).ops = s.ops := rfl
@[simp] theorem appendMove_drive (m : Move) :
    (appendMove m s).drive = { s.drive with queue := s.drive.queue ++ [m] } := rfl
@[simp] theorem appendMove_store (m : Move) : (appendMove m s).store = s.store := rfl
@[simp] theorem appendMove_cresc (m : Move) : (appendMove m s).cresc = s.cresc := rfl
@[simp] theorem appendMove_pistons (m : Move) : (appendMove m s).pistons = s.pistons := rfl
@[simp] theorem appendMove_link (m : Move) : (appendMove m s).link = s.link := rfl
@[simp] theorem appendMove_view (m : Move) : (appendMove m s).view = s.view := rfl
@[simp] theorem appendMove_journal (m : Move) : (appendMove m s).journal = s.journal := rfl
@[simp] theorem appendMove_port (m : Move) : (appendMove m s).port = s.port := rfl
@[simp] theorem appendMove_flashes (m : Move) : (appendMove m s).flashes = s.flashes := rfl
@[simp] theorem appendMove_time (m : Move) : (appendMove m s).time = s.time := rfl
@[simp] theorem appendMove_torn (m : Move) : (appendMove m s).torn = s.torn := rfl

/-! ### removeMove -/

@[simp] theorem removeMove_pending (c : Chan) : (removeMove c s).pending = s.pending := rfl
@[simp] theorem removeMove_pins (c : Chan) : (removeMove c s).pins = s.pins := rfl
@[simp] theorem removeMove_memory (c : Chan) : (removeMove c s).memory = s.memory := rfl
@[simp] theorem removeMove_start (c : Chan) : (removeMove c s).start = s.start := rfl
@[simp] theorem removeMove_params (c : Chan) : (removeMove c s).params = s.params := rfl
@[simp] theorem removeMove_channels (c : Chan) : (removeMove c s).channels = s.channels := rfl
@[simp] theorem removeMove_relay (c : Chan) : (removeMove c s).relay = s.relay := rfl
@[simp] theorem removeMove_ops (c : Chan) : (removeMove c s).ops = s.ops := rfl
@[simp] theorem removeMove_drive (c : Chan) :
    (removeMove c s).drive = { s.drive with queue := s.drive.queue.filter (fun m => decide (m.chan ≠ c)) } := rfl
@[simp] theorem removeMove_store (c : Chan) : (removeMove c s).store = s.store := rfl
@[simp] theorem removeMove_cresc (c : Chan) : (removeMove c s).cresc = s.cresc := rfl
@[simp] theorem removeMove_pistons (c : Chan) : (removeMove c s).pistons = s.pistons := rfl
@[simp] theorem removeMove_link (c : Chan) : (removeMove c s).link = s.link := rfl
@[simp] theorem removeMove_view (c : Chan) : (removeMove c s).view = s.view := rfl
@[simp] theorem removeMove_journal (c : Chan) : (removeMove c s).journal = s.journal := rfl
@[simp] theorem removeMove_port (c : Chan) : (removeMove c s).port = s.port := rfl
@[simp] theorem removeMove_flashes (c : Chan) : (removeMove c s).flashes = s.flashes := rfl
@[simp] theorem removeMove_time (c : Chan) : (removeMove c s).time = s.time := rfl
@[simp] theorem removeMove_torn (c : Chan) : (removeMove c s).torn = s.torn := rfl

/-! ### recompose -/

@[simp] theorem recompose_pending : (recompose s).pending = s.pending := rfl
@[simp] theorem recompose_pins : (recompose s).pins = s.pins := rfl
@[simp] theorem recompose_memory : (recompose s).memory = s.memory := rfl
@[simp] theorem recompose_start : (recompose s).start = s.start := rfl
@[simp] theorem recompose_params : (recompose s).params = s.params := rfl
@[simp] theorem recompose_channels : (recompose s).channels = s.channels := rfl
@[simp] theorem recompose_relay : (recompose s).relay = s.relay.compose (composedSet s) := rfl
@[simp] theorem recompose_ops : (recompose s).ops = s.ops := rfl
@[simp] theorem recompose_drive : (recompose s).drive = s.drive := rfl
@[simp] theorem recompose_store : (recompose s).store = s.store := rfl
@[simp] theorem recompose_cresc : (recompose s).cresc = s.cresc := rfl
@[simp] theorem recompose_pistons : (recompose s).pistons = s.pistons := rfl
@[simp] theorem recompose_link : (recompose s).link = s.link := rfl
@[simp] theorem recompose_view : (recompose s).view = s.view := rfl
@[simp] theorem recompose_journal : (recompose s).journal = s.journal := rfl
@[simp] theorem recompose_port : (recompose s).port = s.port := rfl
@[simp] theorem recompose_flashes : (recompose s).flashes = s.flashes := rfl
@[simp] theorem recompose_time : (recompose s).time = s.time := rfl
@[simp] theorem recompose_torn : (recompose s).torn = s.torn := rfl

/-! ### writeRecord -/

@[simp] theorem writeRecord_pending (r : Record) : (writeRecord r s).pending = s.pending := rfl
@[simp] theorem writeRecord_pins (r : Record) : (writeRecord r s).pins = s.pins := rfl
@[simp] theorem writeRecord_memory (r : Record) : (writeRecord r s).memory = s.memory := rfl
@[simp] theorem writeRecord_start (r : Record) : (writeRecord r s).start = s.start := rfl
@[simp] theorem writeRecord_params (r : Record) : (writeRecord r s).params = s.params := rfl
@[simp] theorem writeRecord_channels (r : Record) : (writeRecord r s).channels = s.channels := rfl
@[simp] theorem writeRecord_relay (r : Record) : (writeRecord r s).relay = s.relay := rfl
@[simp] theorem writeRecord_ops (r : Record) : (writeRecord r s).ops = s.ops.dropRef s.journal.next := rfl
@[simp] theorem writeRecord_drive (r : Record) : (writeRecord r s).drive = s.drive := rfl
@[simp] theorem writeRecord_store (r : Record) :
    (writeRecord r s).store = s.store.dropRef s.journal.next := rfl
@[simp] theorem writeRecord_cresc (r : Record) : (writeRecord r s).cresc = s.cresc := rfl
@[simp] theorem writeRecord_pistons (r : Record) : (writeRecord r s).pistons = s.pistons := rfl
@[simp] theorem writeRecord_link (r : Record) : (writeRecord r s).link = s.link := rfl
@[simp] theorem writeRecord_view (r : Record) : (writeRecord r s).view = s.view := rfl
@[simp] theorem writeRecord_journal (r : Record) : (writeRecord r s).journal = s.journal.push r := rfl
@[simp] theorem writeRecord_port (r : Record) : (writeRecord r s).port = s.port := rfl
@[simp] theorem writeRecord_flashes (r : Record) : (writeRecord r s).flashes = s.flashes := rfl
@[simp] theorem writeRecord_time (r : Record) : (writeRecord r s).time = s.time := rfl
@[simp] theorem writeRecord_torn (r : Record) : (writeRecord r s).torn = s.torn := rfl

/-! ### closeRecord -/

@[simp] theorem closeRecord_pending (ref : Option (Fin 32)) (st : RecState) (o : Option FaultCode) :
    (closeRecord ref st o s).pending = s.pending := rfl
@[simp] theorem closeRecord_pins (ref : Option (Fin 32)) (st : RecState) (o : Option FaultCode) :
    (closeRecord ref st o s).pins = s.pins := rfl
@[simp] theorem closeRecord_memory (ref : Option (Fin 32)) (st : RecState) (o : Option FaultCode) :
    (closeRecord ref st o s).memory = s.memory := rfl
@[simp] theorem closeRecord_start (ref : Option (Fin 32)) (st : RecState) (o : Option FaultCode) :
    (closeRecord ref st o s).start = s.start := rfl
@[simp] theorem closeRecord_params (ref : Option (Fin 32)) (st : RecState) (o : Option FaultCode) :
    (closeRecord ref st o s).params = s.params := rfl
@[simp] theorem closeRecord_channels (ref : Option (Fin 32)) (st : RecState) (o : Option FaultCode) :
    (closeRecord ref st o s).channels = s.channels := rfl
@[simp] theorem closeRecord_relay (ref : Option (Fin 32)) (st : RecState) (o : Option FaultCode) :
    (closeRecord ref st o s).relay = s.relay := rfl
@[simp] theorem closeRecord_ops (ref : Option (Fin 32)) (st : RecState) (o : Option FaultCode) :
    (closeRecord ref st o s).ops = s.ops := rfl
@[simp] theorem closeRecord_drive (ref : Option (Fin 32)) (st : RecState) (o : Option FaultCode) :
    (closeRecord ref st o s).drive = s.drive := rfl
@[simp] theorem closeRecord_store (ref : Option (Fin 32)) (st : RecState) (o : Option FaultCode) :
    (closeRecord ref st o s).store = s.store := rfl
@[simp] theorem closeRecord_cresc (ref : Option (Fin 32)) (st : RecState) (o : Option FaultCode) :
    (closeRecord ref st o s).cresc = s.cresc := rfl
@[simp] theorem closeRecord_pistons (ref : Option (Fin 32)) (st : RecState) (o : Option FaultCode) :
    (closeRecord ref st o s).pistons = s.pistons := rfl
@[simp] theorem closeRecord_link (ref : Option (Fin 32)) (st : RecState) (o : Option FaultCode) :
    (closeRecord ref st o s).link = s.link := rfl
@[simp] theorem closeRecord_view (ref : Option (Fin 32)) (st : RecState) (o : Option FaultCode) :
    (closeRecord ref st o s).view = s.view := rfl
@[simp] theorem closeRecord_journal (ref : Option (Fin 32)) (st : RecState) (o : Option FaultCode) :
    (closeRecord ref st o s).journal = s.journal.close ref st o := rfl
@[simp] theorem closeRecord_port (ref : Option (Fin 32)) (st : RecState) (o : Option FaultCode) :
    (closeRecord ref st o s).port = s.port := rfl
@[simp] theorem closeRecord_flashes (ref : Option (Fin 32)) (st : RecState) (o : Option FaultCode) :
    (closeRecord ref st o s).flashes = s.flashes := rfl
@[simp] theorem closeRecord_time (ref : Option (Fin 32)) (st : RecState) (o : Option FaultCode) :
    (closeRecord ref st o s).time = s.time := rfl
@[simp] theorem closeRecord_torn (ref : Option (Fin 32)) (st : RecState) (o : Option FaultCode) :
    (closeRecord ref st o s).torn = s.torn := rfl

/-! ### setHead -/

@[simp] theorem setHead_pending (e : OpEntry) : (setHead e s).pending = s.pending := rfl
@[simp] theorem setHead_pins (e : OpEntry) : (setHead e s).pins = s.pins := rfl
@[simp] theorem setHead_memory (e : OpEntry) : (setHead e s).memory = s.memory := rfl
@[simp] theorem setHead_start (e : OpEntry) : (setHead e s).start = s.start := rfl
@[simp] theorem setHead_params (e : OpEntry) : (setHead e s).params = s.params := rfl
@[simp] theorem setHead_channels (e : OpEntry) : (setHead e s).channels = s.channels := rfl
@[simp] theorem setHead_relay (e : OpEntry) : (setHead e s).relay = s.relay := rfl
@[simp] theorem setHead_ops (e : OpEntry) :
    (setHead e s).ops = { s.ops with list := e :: s.ops.list.tail } := rfl
@[simp] theorem setHead_drive (e : OpEntry) : (setHead e s).drive = s.drive := rfl
@[simp] theorem setHead_store (e : OpEntry) : (setHead e s).store = s.store := rfl
@[simp] theorem setHead_cresc (e : OpEntry) : (setHead e s).cresc = s.cresc := rfl
@[simp] theorem setHead_pistons (e : OpEntry) : (setHead e s).pistons = s.pistons := rfl
@[simp] theorem setHead_link (e : OpEntry) : (setHead e s).link = s.link := rfl
@[simp] theorem setHead_view (e : OpEntry) : (setHead e s).view = s.view := rfl
@[simp] theorem setHead_journal (e : OpEntry) : (setHead e s).journal = s.journal := rfl
@[simp] theorem setHead_port (e : OpEntry) : (setHead e s).port = s.port := rfl
@[simp] theorem setHead_flashes (e : OpEntry) : (setHead e s).flashes = s.flashes := rfl
@[simp] theorem setHead_time (e : OpEntry) : (setHead e s).time = s.time := rfl
@[simp] theorem setHead_torn (e : OpEntry) : (setHead e s).torn = s.torn := rfl

/-! ### leaveList -/

@[simp] theorem leaveList_pending : (leaveList s).pending = s.pending := rfl
@[simp] theorem leaveList_pins : (leaveList s).pins = s.pins := rfl
@[simp] theorem leaveList_memory : (leaveList s).memory = s.memory := rfl
@[simp] theorem leaveList_start : (leaveList s).start = s.start := rfl
@[simp] theorem leaveList_params : (leaveList s).params = s.params := rfl
@[simp] theorem leaveList_channels : (leaveList s).channels = s.channels := rfl
@[simp] theorem leaveList_relay : (leaveList s).relay = s.relay := rfl
@[simp] theorem leaveList_ops : (leaveList s).ops = { s.ops with list := s.ops.list.tail } := rfl
@[simp] theorem leaveList_drive : (leaveList s).drive = s.drive := rfl
@[simp] theorem leaveList_store : (leaveList s).store = s.store := rfl
@[simp] theorem leaveList_cresc : (leaveList s).cresc = s.cresc := rfl
@[simp] theorem leaveList_pistons : (leaveList s).pistons = s.pistons := rfl
@[simp] theorem leaveList_link : (leaveList s).link = s.link.withdrawHold := rfl
@[simp] theorem leaveList_view : (leaveList s).view = s.view := rfl
@[simp] theorem leaveList_journal : (leaveList s).journal = s.journal := rfl
@[simp] theorem leaveList_port : (leaveList s).port = s.port := rfl
@[simp] theorem leaveList_flashes : (leaveList s).flashes = s.flashes := rfl
@[simp] theorem leaveList_time : (leaveList s).time = s.time := rfl
@[simp] theorem leaveList_torn : (leaveList s).torn = s.torn := rfl

/-! ### setLink -/

@[simp] theorem setLink_pending (l : Link) : (setLink l s).pending = s.pending := rfl
@[simp] theorem setLink_pins (l : Link) : (setLink l s).pins = s.pins := rfl
@[simp] theorem setLink_memory (l : Link) : (setLink l s).memory = s.memory := rfl
@[simp] theorem setLink_start (l : Link) : (setLink l s).start = s.start := rfl
@[simp] theorem setLink_params (l : Link) : (setLink l s).params = s.params := rfl
@[simp] theorem setLink_channels (l : Link) : (setLink l s).channels = s.channels := rfl
@[simp] theorem setLink_relay (l : Link) : (setLink l s).relay = s.relay := rfl
@[simp] theorem setLink_ops (l : Link) : (setLink l s).ops = s.ops := rfl
@[simp] theorem setLink_drive (l : Link) : (setLink l s).drive = s.drive := rfl
@[simp] theorem setLink_store (l : Link) : (setLink l s).store = s.store := rfl
@[simp] theorem setLink_cresc (l : Link) : (setLink l s).cresc = s.cresc := rfl
@[simp] theorem setLink_pistons (l : Link) : (setLink l s).pistons = s.pistons := rfl
@[simp] theorem setLink_link (l : Link) : (setLink l s).link = l := rfl
@[simp] theorem setLink_view (l : Link) : (setLink l s).view = s.view := rfl
@[simp] theorem setLink_journal (l : Link) : (setLink l s).journal = s.journal := rfl
@[simp] theorem setLink_port (l : Link) : (setLink l s).port = s.port := rfl
@[simp] theorem setLink_flashes (l : Link) : (setLink l s).flashes = s.flashes := rfl
@[simp] theorem setLink_time (l : Link) : (setLink l s).time = s.time := rfl
@[simp] theorem setLink_torn (l : Link) : (setLink l s).torn = s.torn := rfl

/-! ### setView -/

@[simp] theorem setView_pending (v : View) : (setView v s).pending = s.pending := rfl
@[simp] theorem setView_pins (v : View) : (setView v s).pins = s.pins := rfl
@[simp] theorem setView_memory (v : View) : (setView v s).memory = s.memory := rfl
@[simp] theorem setView_start (v : View) : (setView v s).start = s.start := rfl
@[simp] theorem setView_params (v : View) : (setView v s).params = s.params := rfl
@[simp] theorem setView_channels (v : View) : (setView v s).channels = s.channels := rfl
@[simp] theorem setView_relay (v : View) : (setView v s).relay = s.relay := rfl
@[simp] theorem setView_ops (v : View) : (setView v s).ops = s.ops := rfl
@[simp] theorem setView_drive (v : View) : (setView v s).drive = s.drive := rfl
@[simp] theorem setView_store (v : View) : (setView v s).store = s.store := rfl
@[simp] theorem setView_cresc (v : View) : (setView v s).cresc = s.cresc := rfl
@[simp] theorem setView_pistons (v : View) : (setView v s).pistons = s.pistons := rfl
@[simp] theorem setView_link (v : View) : (setView v s).link = s.link := rfl
@[simp] theorem setView_view (v : View) : (setView v s).view = v := rfl
@[simp] theorem setView_journal (v : View) : (setView v s).journal = s.journal := rfl
@[simp] theorem setView_port (v : View) : (setView v s).port = s.port := rfl
@[simp] theorem setView_flashes (v : View) : (setView v s).flashes = s.flashes := rfl
@[simp] theorem setView_time (v : View) : (setView v s).time = s.time := rfl
@[simp] theorem setView_torn (v : View) : (setView v s).torn = s.torn := rfl

/-! ### setSupply -/

@[simp] theorem setSupply_pending (x : Supply) (timer : Option Nat) :
    (setSupply x timer s).pending = s.pending := rfl
@[simp] theorem setSupply_pins (x : Supply) (timer : Option Nat) : (setSupply x timer s).pins = s.pins := rfl
@[simp] theorem setSupply_memory (x : Supply) (timer : Option Nat) :
    (setSupply x timer s).memory = s.memory := rfl
@[simp] theorem setSupply_start (x : Supply) (timer : Option Nat) :
    (setSupply x timer s).start = s.start := rfl
@[simp] theorem setSupply_params (x : Supply) (timer : Option Nat) :
    (setSupply x timer s).params = s.params := rfl
@[simp] theorem setSupply_channels (x : Supply) (timer : Option Nat) :
    (setSupply x timer s).channels = s.channels := rfl
@[simp] theorem setSupply_relay (x : Supply) (timer : Option Nat) :
    (setSupply x timer s).relay = s.relay := rfl
@[simp] theorem setSupply_ops (x : Supply) (timer : Option Nat) : (setSupply x timer s).ops = s.ops := rfl
@[simp] theorem setSupply_drive (x : Supply) (timer : Option Nat) :
    (setSupply x timer s).drive = { s.drive with supply := x, restore := timer } := rfl
@[simp] theorem setSupply_store (x : Supply) (timer : Option Nat) :
    (setSupply x timer s).store = s.store := rfl
@[simp] theorem setSupply_cresc (x : Supply) (timer : Option Nat) :
    (setSupply x timer s).cresc = s.cresc := rfl
@[simp] theorem setSupply_pistons (x : Supply) (timer : Option Nat) :
    (setSupply x timer s).pistons = s.pistons := rfl
@[simp] theorem setSupply_link (x : Supply) (timer : Option Nat) : (setSupply x timer s).link = s.link := rfl
@[simp] theorem setSupply_view (x : Supply) (timer : Option Nat) : (setSupply x timer s).view = s.view := rfl
@[simp] theorem setSupply_journal (x : Supply) (timer : Option Nat) :
    (setSupply x timer s).journal = s.journal := rfl
@[simp] theorem setSupply_port (x : Supply) (timer : Option Nat) : (setSupply x timer s).port = s.port := rfl
@[simp] theorem setSupply_flashes (x : Supply) (timer : Option Nat) :
    (setSupply x timer s).flashes = s.flashes := rfl
@[simp] theorem setSupply_time (x : Supply) (timer : Option Nat) : (setSupply x timer s).time = s.time := rfl
@[simp] theorem setSupply_torn (x : Supply) (timer : Option Nat) : (setSupply x timer s).torn = s.torn := rfl

/-! ### beginReply -/

@[simp] theorem beginReply_pending (st : Status) (data : List Byte) :
    (beginReply st data s).pending = s.pending := rfl
@[simp] theorem beginReply_pins (st : Status) (data : List Byte) : (beginReply st data s).pins = s.pins := rfl
@[simp] theorem beginReply_memory (st : Status) (data : List Byte) :
    (beginReply st data s).memory = s.memory := rfl
@[simp] theorem beginReply_start (st : Status) (data : List Byte) :
    (beginReply st data s).start = s.start := rfl
@[simp] theorem beginReply_params (st : Status) (data : List Byte) :
    (beginReply st data s).params = s.params := rfl
@[simp] theorem beginReply_channels (st : Status) (data : List Byte) :
    (beginReply st data s).channels = s.channels := rfl
@[simp] theorem beginReply_relay (st : Status) (data : List Byte) :
    (beginReply st data s).relay = s.relay := rfl
@[simp] theorem beginReply_ops (st : Status) (data : List Byte) : (beginReply st data s).ops = s.ops := rfl
@[simp] theorem beginReply_drive (st : Status) (data : List Byte) :
    (beginReply st data s).drive = s.drive := rfl
@[simp] theorem beginReply_store (st : Status) (data : List Byte) :
    (beginReply st data s).store = s.store := rfl
@[simp] theorem beginReply_cresc (st : Status) (data : List Byte) :
    (beginReply st data s).cresc = s.cresc := rfl
@[simp] theorem beginReply_pistons (st : Status) (data : List Byte) :
    (beginReply st data s).pistons = s.pistons := rfl
@[simp] theorem beginReply_link (st : Status) (data : List Byte) : (beginReply st data s).link = s.link := rfl
@[simp] theorem beginReply_view (st : Status) (data : List Byte) : (beginReply st data s).view = s.view := rfl
@[simp] theorem beginReply_journal (st : Status) (data : List Byte) :
    (beginReply st data s).journal = s.journal := rfl
@[simp] theorem beginReply_port (st : Status) (data : List Byte) :
    (beginReply st data s).port = { s.port with state := .replying, reply := replyBytes st data, replyUs := 0 } := rfl
@[simp] theorem beginReply_flashes (st : Status) (data : List Byte) :
    (beginReply st data s).flashes = s.flashes := rfl
@[simp] theorem beginReply_time (st : Status) (data : List Byte) : (beginReply st data s).time = s.time := rfl
@[simp] theorem beginReply_torn (st : Status) (data : List Byte) : (beginReply st data s).torn = s.torn := rfl

/-! ### storeWrite -/

@[simp] theorem storeWrite_pending (e : WriteEntry) : (storeWrite e s).pending = s.pending := rfl
@[simp] theorem storeWrite_pins (e : WriteEntry) : (storeWrite e s).pins = s.pins := rfl
@[simp] theorem storeWrite_memory (e : WriteEntry) :
    (storeWrite e s).memory = memWriteRange s.memory (targetAddress e.target) e.data := rfl
@[simp] theorem storeWrite_start (e : WriteEntry) : (storeWrite e s).start = s.start := rfl
@[simp] theorem storeWrite_params (e : WriteEntry) : (storeWrite e s).params = s.params := rfl
@[simp] theorem storeWrite_channels (e : WriteEntry) : (storeWrite e s).channels = s.channels := rfl
@[simp] theorem storeWrite_relay (e : WriteEntry) : (storeWrite e s).relay = s.relay := rfl
@[simp] theorem storeWrite_ops (e : WriteEntry) : (storeWrite e s).ops = s.ops := rfl
@[simp] theorem storeWrite_drive (e : WriteEntry) : (storeWrite e s).drive = s.drive := rfl
@[simp] theorem storeWrite_store (e : WriteEntry) : (storeWrite e s).store = s.store := rfl
@[simp] theorem storeWrite_cresc (e : WriteEntry) : (storeWrite e s).cresc = s.cresc := rfl
@[simp] theorem storeWrite_pistons (e : WriteEntry) : (storeWrite e s).pistons = s.pistons := rfl
@[simp] theorem storeWrite_link (e : WriteEntry) : (storeWrite e s).link = s.link := rfl
@[simp] theorem storeWrite_view (e : WriteEntry) : (storeWrite e s).view = s.view := rfl
@[simp] theorem storeWrite_journal (e : WriteEntry) : (storeWrite e s).journal = s.journal := rfl
@[simp] theorem storeWrite_port (e : WriteEntry) : (storeWrite e s).port = s.port := rfl
@[simp] theorem storeWrite_flashes (e : WriteEntry) : (storeWrite e s).flashes = s.flashes := rfl
@[simp] theorem storeWrite_time (e : WriteEntry) : (storeWrite e s).time = s.time := rfl
@[simp] theorem storeWrite_torn (e : WriteEntry) : (storeWrite e s).torn = s.torn := rfl

/-! ### emit -/

@[simp] theorem emit_pending (cs : List Instr) : (emit cs s).pending = s.pending ++ cs := rfl
@[simp] theorem emit_pins (cs : List Instr) : (emit cs s).pins = s.pins := rfl
@[simp] theorem emit_memory (cs : List Instr) : (emit cs s).memory = s.memory := rfl
@[simp] theorem emit_start (cs : List Instr) : (emit cs s).start = s.start := rfl
@[simp] theorem emit_params (cs : List Instr) : (emit cs s).params = s.params := rfl
@[simp] theorem emit_channels (cs : List Instr) : (emit cs s).channels = s.channels := rfl
@[simp] theorem emit_relay (cs : List Instr) : (emit cs s).relay = s.relay := rfl
@[simp] theorem emit_ops (cs : List Instr) : (emit cs s).ops = s.ops := rfl
@[simp] theorem emit_drive (cs : List Instr) : (emit cs s).drive = s.drive := rfl
@[simp] theorem emit_store (cs : List Instr) : (emit cs s).store = s.store := rfl
@[simp] theorem emit_cresc (cs : List Instr) : (emit cs s).cresc = s.cresc := rfl
@[simp] theorem emit_pistons (cs : List Instr) : (emit cs s).pistons = s.pistons := rfl
@[simp] theorem emit_link (cs : List Instr) : (emit cs s).link = s.link := rfl
@[simp] theorem emit_view (cs : List Instr) : (emit cs s).view = s.view := rfl
@[simp] theorem emit_journal (cs : List Instr) : (emit cs s).journal = s.journal := rfl
@[simp] theorem emit_port (cs : List Instr) : (emit cs s).port = s.port := rfl
@[simp] theorem emit_flashes (cs : List Instr) : (emit cs s).flashes = s.flashes := rfl
@[simp] theorem emit_time (cs : List Instr) : (emit cs s).time = s.time := rfl
@[simp] theorem emit_torn (cs : List Instr) : (emit cs s).torn = s.torn := rfl

end Sys2Proof.Machine
end

