-- ==== Sys2Proof/Laws/Frames.lean ====
section
/-! SUPPORT. For each shared operation, all it can change: the operation equals its argument with the named fields
replaced. The lemmas that follow each one read the untouched fields off it. -/

namespace Sys2Proof.Machine

variable (s : State)

theorem tearWrite_frame (e : WriteEntry) :
    tearWrite e s =
      { s with
        memory := (tearWrite e s).memory
        torn := (tearWrite e s).torn } := rfl

@[simp] theorem tearWrite_pending (e : WriteEntry) : (tearWrite e s).pending = s.pending :=
  by rw [tearWrite_frame]
@[simp] theorem tearWrite_pins (e : WriteEntry) : (tearWrite e s).pins = s.pins :=
  by rw [tearWrite_frame]
@[simp] theorem tearWrite_params (e : WriteEntry) : (tearWrite e s).params = s.params :=
  by rw [tearWrite_frame]
@[simp] theorem tearWrite_channels (e : WriteEntry) : (tearWrite e s).channels = s.channels :=
  by rw [tearWrite_frame]
@[simp] theorem tearWrite_relay (e : WriteEntry) : (tearWrite e s).relay = s.relay :=
  by rw [tearWrite_frame]
@[simp] theorem tearWrite_ops (e : WriteEntry) : (tearWrite e s).ops = s.ops :=
  by rw [tearWrite_frame]
@[simp] theorem tearWrite_drive (e : WriteEntry) : (tearWrite e s).drive = s.drive :=
  by rw [tearWrite_frame]
@[simp] theorem tearWrite_store (e : WriteEntry) : (tearWrite e s).store = s.store :=
  by rw [tearWrite_frame]
@[simp] theorem tearWrite_link (e : WriteEntry) : (tearWrite e s).link = s.link :=
  by rw [tearWrite_frame]
@[simp] theorem tearWrite_view (e : WriteEntry) : (tearWrite e s).view = s.view :=
  by rw [tearWrite_frame]
@[simp] theorem tearWrite_journal (e : WriteEntry) : (tearWrite e s).journal = s.journal :=
  by rw [tearWrite_frame]
@[simp] theorem tearWrite_port (e : WriteEntry) : (tearWrite e s).port = s.port :=
  by rw [tearWrite_frame]

theorem reportFault_frame (k : FaultCode) (a b c d : Byte) :
    reportFault k a b c d s =
      { s with
        journal := (reportFault k a b c d s).journal
        ops := (reportFault k a b c d s).ops
        store := (reportFault k a b c d s).store } := rfl

@[simp] theorem reportFault_pending (k : FaultCode) (a b c d : Byte) : (reportFault k a b c d s).pending = s.pending :=
  by rw [reportFault_frame]
@[simp] theorem reportFault_pins (k : FaultCode) (a b c d : Byte) : (reportFault k a b c d s).pins = s.pins :=
  by rw [reportFault_frame]
@[simp] theorem reportFault_memory (k : FaultCode) (a b c d : Byte) : (reportFault k a b c d s).memory = s.memory :=
  by rw [reportFault_frame]
@[simp] theorem reportFault_params (k : FaultCode) (a b c d : Byte) : (reportFault k a b c d s).params = s.params :=
  by rw [reportFault_frame]
@[simp] theorem reportFault_channels (k : FaultCode) (a b c d : Byte) : (reportFault k a b c d s).channels = s.channels :=
  by rw [reportFault_frame]
@[simp] theorem reportFault_relay (k : FaultCode) (a b c d : Byte) : (reportFault k a b c d s).relay = s.relay :=
  by rw [reportFault_frame]
@[simp] theorem reportFault_drive (k : FaultCode) (a b c d : Byte) : (reportFault k a b c d s).drive = s.drive :=
  by rw [reportFault_frame]
@[simp] theorem reportFault_link (k : FaultCode) (a b c d : Byte) : (reportFault k a b c d s).link = s.link :=
  by rw [reportFault_frame]
@[simp] theorem reportFault_view (k : FaultCode) (a b c d : Byte) : (reportFault k a b c d s).view = s.view :=
  by rw [reportFault_frame]
@[simp] theorem reportFault_port (k : FaultCode) (a b c d : Byte) : (reportFault k a b c d s).port = s.port :=
  by rw [reportFault_frame]

theorem countDriving_frame (f : Counts → Counts) :
    countDriving f s =
      { s with
        ops := (countDriving f s).ops
        journal := (countDriving f s).journal } := rfl

@[simp] theorem countDriving_pending (f : Counts → Counts) : (countDriving f s).pending = s.pending :=
  by rw [countDriving_frame]
@[simp] theorem countDriving_pins (f : Counts → Counts) : (countDriving f s).pins = s.pins :=
  by rw [countDriving_frame]
@[simp] theorem countDriving_memory (f : Counts → Counts) : (countDriving f s).memory = s.memory :=
  by rw [countDriving_frame]
@[simp] theorem countDriving_params (f : Counts → Counts) : (countDriving f s).params = s.params :=
  by rw [countDriving_frame]
@[simp] theorem countDriving_channels (f : Counts → Counts) : (countDriving f s).channels = s.channels :=
  by rw [countDriving_frame]
@[simp] theorem countDriving_relay (f : Counts → Counts) : (countDriving f s).relay = s.relay :=
  by rw [countDriving_frame]
@[simp] theorem countDriving_drive (f : Counts → Counts) : (countDriving f s).drive = s.drive :=
  by rw [countDriving_frame]
@[simp] theorem countDriving_store (f : Counts → Counts) : (countDriving f s).store = s.store :=
  by rw [countDriving_frame]
@[simp] theorem countDriving_link (f : Counts → Counts) : (countDriving f s).link = s.link :=
  by rw [countDriving_frame]
@[simp] theorem countDriving_view (f : Counts → Counts) : (countDriving f s).view = s.view :=
  by rw [countDriving_frame]
@[simp] theorem countDriving_port (f : Counts → Counts) : (countDriving f s).port = s.port :=
  by rw [countDriving_frame]

theorem closeDriving_frame (st : RecState) :
    closeDriving st s =
      { s with
        ops := (closeDriving st s).ops
        journal := (closeDriving st s).journal } := rfl

@[simp] theorem closeDriving_pending (st : RecState) : (closeDriving st s).pending = s.pending :=
  by rw [closeDriving_frame]
@[simp] theorem closeDriving_pins (st : RecState) : (closeDriving st s).pins = s.pins :=
  by rw [closeDriving_frame]
@[simp] theorem closeDriving_memory (st : RecState) : (closeDriving st s).memory = s.memory :=
  by rw [closeDriving_frame]
@[simp] theorem closeDriving_params (st : RecState) : (closeDriving st s).params = s.params :=
  by rw [closeDriving_frame]
@[simp] theorem closeDriving_channels (st : RecState) : (closeDriving st s).channels = s.channels :=
  by rw [closeDriving_frame]
@[simp] theorem closeDriving_relay (st : RecState) : (closeDriving st s).relay = s.relay :=
  by rw [closeDriving_frame]
@[simp] theorem closeDriving_drive (st : RecState) : (closeDriving st s).drive = s.drive :=
  by rw [closeDriving_frame]
@[simp] theorem closeDriving_store (st : RecState) : (closeDriving st s).store = s.store :=
  by rw [closeDriving_frame]
@[simp] theorem closeDriving_link (st : RecState) : (closeDriving st s).link = s.link :=
  by rw [closeDriving_frame]
@[simp] theorem closeDriving_view (st : RecState) : (closeDriving st s).view = s.view :=
  by rw [closeDriving_frame]
@[simp] theorem closeDriving_port (st : RecState) : (closeDriving st s).port = s.port :=
  by rw [closeDriving_frame]

theorem closingCheck_frame :
    closingCheck s =
      { s with
        ops := (closingCheck s).ops
        journal := (closingCheck s).journal } := by
  unfold closingCheck; split <;> rfl

@[simp] theorem closingCheck_pending : (closingCheck s).pending = s.pending :=
  by rw [closingCheck_frame]
@[simp] theorem closingCheck_pins : (closingCheck s).pins = s.pins :=
  by rw [closingCheck_frame]
@[simp] theorem closingCheck_memory : (closingCheck s).memory = s.memory :=
  by rw [closingCheck_frame]
@[simp] theorem closingCheck_params : (closingCheck s).params = s.params :=
  by rw [closingCheck_frame]
@[simp] theorem closingCheck_channels : (closingCheck s).channels = s.channels :=
  by rw [closingCheck_frame]
@[simp] theorem closingCheck_relay : (closingCheck s).relay = s.relay :=
  by rw [closingCheck_frame]
@[simp] theorem closingCheck_drive : (closingCheck s).drive = s.drive :=
  by rw [closingCheck_frame]
@[simp] theorem closingCheck_store : (closingCheck s).store = s.store :=
  by rw [closingCheck_frame]
@[simp] theorem closingCheck_link : (closingCheck s).link = s.link :=
  by rw [closingCheck_frame]
@[simp] theorem closingCheck_view : (closingCheck s).view = s.view :=
  by rw [closingCheck_frame]
@[simp] theorem closingCheck_port : (closingCheck s).port = s.port :=
  by rw [closingCheck_frame]

theorem handOver_frame (f : TxFrame) :
    handOver f s =
      { s with
        link := (handOver f s).link
        journal := (handOver f s).journal
        ops := (handOver f s).ops
        store := (handOver f s).store } := by
  unfold handOver; split
  · split <;> rfl
  · rfl

@[simp] theorem handOver_pending (f : TxFrame) : (handOver f s).pending = s.pending :=
  by rw [handOver_frame]
@[simp] theorem handOver_pins (f : TxFrame) : (handOver f s).pins = s.pins :=
  by rw [handOver_frame]
@[simp] theorem handOver_memory (f : TxFrame) : (handOver f s).memory = s.memory :=
  by rw [handOver_frame]
@[simp] theorem handOver_params (f : TxFrame) : (handOver f s).params = s.params :=
  by rw [handOver_frame]
@[simp] theorem handOver_channels (f : TxFrame) : (handOver f s).channels = s.channels :=
  by rw [handOver_frame]
@[simp] theorem handOver_relay (f : TxFrame) : (handOver f s).relay = s.relay :=
  by rw [handOver_frame]
@[simp] theorem handOver_drive (f : TxFrame) : (handOver f s).drive = s.drive :=
  by rw [handOver_frame]
@[simp] theorem handOver_view (f : TxFrame) : (handOver f s).view = s.view :=
  by rw [handOver_frame]
@[simp] theorem handOver_port (f : TxFrame) : (handOver f s).port = s.port :=
  by rw [handOver_frame]

theorem withdrawTutti_frame :
    withdrawTutti s =
      { s with
        link := (withdrawTutti s).link } := rfl

@[simp] theorem withdrawTutti_pending : (withdrawTutti s).pending = s.pending :=
  by rw [withdrawTutti_frame]
@[simp] theorem withdrawTutti_pins : (withdrawTutti s).pins = s.pins :=
  by rw [withdrawTutti_frame]
@[simp] theorem withdrawTutti_memory : (withdrawTutti s).memory = s.memory :=
  by rw [withdrawTutti_frame]
@[simp] theorem withdrawTutti_params : (withdrawTutti s).params = s.params :=
  by rw [withdrawTutti_frame]
@[simp] theorem withdrawTutti_channels : (withdrawTutti s).channels = s.channels :=
  by rw [withdrawTutti_frame]
@[simp] theorem withdrawTutti_relay : (withdrawTutti s).relay = s.relay :=
  by rw [withdrawTutti_frame]
@[simp] theorem withdrawTutti_ops : (withdrawTutti s).ops = s.ops :=
  by rw [withdrawTutti_frame]
@[simp] theorem withdrawTutti_drive : (withdrawTutti s).drive = s.drive :=
  by rw [withdrawTutti_frame]
@[simp] theorem withdrawTutti_store : (withdrawTutti s).store = s.store :=
  by rw [withdrawTutti_frame]
@[simp] theorem withdrawTutti_view : (withdrawTutti s).view = s.view :=
  by rw [withdrawTutti_frame]
@[simp] theorem withdrawTutti_journal : (withdrawTutti s).journal = s.journal :=
  by rw [withdrawTutti_frame]
@[simp] theorem withdrawTutti_port : (withdrawTutti s).port = s.port :=
  by rw [withdrawTutti_frame]

theorem writeLockByte_frame (n : Fin 32) :
    writeLockByte n s =
      { s with
        store := (writeLockByte n s).store
        journal := (writeLockByte n s).journal } := by
  unfold writeLockByte enterWrite
  cases enterQueue s.store.queue (.lockByte n) [lockByteOf s.store.lockCopy n] none <;> rfl

@[simp] theorem writeLockByte_pending (n : Fin 32) : (writeLockByte n s).pending = s.pending :=
  by rw [writeLockByte_frame]
@[simp] theorem writeLockByte_pins (n : Fin 32) : (writeLockByte n s).pins = s.pins :=
  by rw [writeLockByte_frame]
@[simp] theorem writeLockByte_memory (n : Fin 32) : (writeLockByte n s).memory = s.memory :=
  by rw [writeLockByte_frame]
@[simp] theorem writeLockByte_params (n : Fin 32) : (writeLockByte n s).params = s.params :=
  by rw [writeLockByte_frame]
@[simp] theorem writeLockByte_channels (n : Fin 32) : (writeLockByte n s).channels = s.channels :=
  by rw [writeLockByte_frame]
@[simp] theorem writeLockByte_relay (n : Fin 32) : (writeLockByte n s).relay = s.relay :=
  by rw [writeLockByte_frame]
@[simp] theorem writeLockByte_ops (n : Fin 32) : (writeLockByte n s).ops = s.ops :=
  by rw [writeLockByte_frame]
@[simp] theorem writeLockByte_drive (n : Fin 32) : (writeLockByte n s).drive = s.drive :=
  by rw [writeLockByte_frame]
@[simp] theorem writeLockByte_link (n : Fin 32) : (writeLockByte n s).link = s.link :=
  by rw [writeLockByte_frame]
@[simp] theorem writeLockByte_view (n : Fin 32) : (writeLockByte n s).view = s.view :=
  by rw [writeLockByte_frame]
@[simp] theorem writeLockByte_port (n : Fin 32) : (writeLockByte n s).port = s.port :=
  by rw [writeLockByte_frame]

theorem writeCalibration_frame :
    writeCalibration s =
      { s with
        store := (writeCalibration s).store
        journal := (writeCalibration s).journal } := by
  unfold writeCalibration enterWrite
  cases enterQueue s.store.queue .calibration (calibrationBytes s.store.c0 s.store.c1) none <;> rfl

@[simp] theorem writeCalibration_pending : (writeCalibration s).pending = s.pending :=
  by rw [writeCalibration_frame]
@[simp] theorem writeCalibration_pins : (writeCalibration s).pins = s.pins :=
  by rw [writeCalibration_frame]
@[simp] theorem writeCalibration_memory : (writeCalibration s).memory = s.memory :=
  by rw [writeCalibration_frame]
@[simp] theorem writeCalibration_params : (writeCalibration s).params = s.params :=
  by rw [writeCalibration_frame]
@[simp] theorem writeCalibration_channels : (writeCalibration s).channels = s.channels :=
  by rw [writeCalibration_frame]
@[simp] theorem writeCalibration_relay : (writeCalibration s).relay = s.relay :=
  by rw [writeCalibration_frame]
@[simp] theorem writeCalibration_ops : (writeCalibration s).ops = s.ops :=
  by rw [writeCalibration_frame]
@[simp] theorem writeCalibration_drive : (writeCalibration s).drive = s.drive :=
  by rw [writeCalibration_frame]
@[simp] theorem writeCalibration_link : (writeCalibration s).link = s.link :=
  by rw [writeCalibration_frame]
@[simp] theorem writeCalibration_view : (writeCalibration s).view = s.view :=
  by rw [writeCalibration_frame]
@[simp] theorem writeCalibration_port : (writeCalibration s).port = s.port :=
  by rw [writeCalibration_frame]

theorem serveMark_frame :
    serveMark s =
      { s with
        store := (serveMark s).store
        journal := (serveMark s).journal } := by
  unfold serveMark; split
  · rw [writeCalibration_frame]
  · split
    · rfl
    · rw [writeLockByte_frame]

@[simp] theorem serveMark_pending : (serveMark s).pending = s.pending :=
  by rw [serveMark_frame]
@[simp] theorem serveMark_pins : (serveMark s).pins = s.pins :=
  by rw [serveMark_frame]
@[simp] theorem serveMark_memory : (serveMark s).memory = s.memory :=
  by rw [serveMark_frame]
@[simp] theorem serveMark_params : (serveMark s).params = s.params :=
  by rw [serveMark_frame]
@[simp] theorem serveMark_channels : (serveMark s).channels = s.channels :=
  by rw [serveMark_frame]
@[simp] theorem serveMark_relay : (serveMark s).relay = s.relay :=
  by rw [serveMark_frame]
@[simp] theorem serveMark_ops : (serveMark s).ops = s.ops :=
  by rw [serveMark_frame]
@[simp] theorem serveMark_drive : (serveMark s).drive = s.drive :=
  by rw [serveMark_frame]
@[simp] theorem serveMark_link : (serveMark s).link = s.link :=
  by rw [serveMark_frame]
@[simp] theorem serveMark_view : (serveMark s).view = s.view :=
  by rw [serveMark_frame]
@[simp] theorem serveMark_port : (serveMark s).port = s.port :=
  by rw [serveMark_frame]

theorem setLock_frame (level : Fin 256) (lock : Bool) :
    setLock level lock s =
      { s with
        store := (setLock level lock s).store
        journal := (setLock level lock s).journal } := by
  unfold setLock; rw [writeLockByte_frame]

@[simp] theorem setLock_pending (level : Fin 256) (lock : Bool) : (setLock level lock s).pending = s.pending :=
  by rw [setLock_frame]
@[simp] theorem setLock_pins (level : Fin 256) (lock : Bool) : (setLock level lock s).pins = s.pins :=
  by rw [setLock_frame]
@[simp] theorem setLock_memory (level : Fin 256) (lock : Bool) : (setLock level lock s).memory = s.memory :=
  by rw [setLock_frame]
@[simp] theorem setLock_params (level : Fin 256) (lock : Bool) : (setLock level lock s).params = s.params :=
  by rw [setLock_frame]
@[simp] theorem setLock_channels (level : Fin 256) (lock : Bool) : (setLock level lock s).channels = s.channels :=
  by rw [setLock_frame]
@[simp] theorem setLock_relay (level : Fin 256) (lock : Bool) : (setLock level lock s).relay = s.relay :=
  by rw [setLock_frame]
@[simp] theorem setLock_ops (level : Fin 256) (lock : Bool) : (setLock level lock s).ops = s.ops :=
  by rw [setLock_frame]
@[simp] theorem setLock_drive (level : Fin 256) (lock : Bool) : (setLock level lock s).drive = s.drive :=
  by rw [setLock_frame]
@[simp] theorem setLock_link (level : Fin 256) (lock : Bool) : (setLock level lock s).link = s.link :=
  by rw [setLock_frame]
@[simp] theorem setLock_view (level : Fin 256) (lock : Bool) : (setLock level lock s).view = s.view :=
  by rw [setLock_frame]
@[simp] theorem setLock_port (level : Fin 256) (lock : Bool) : (setLock level lock s).port = s.port :=
  by rw [setLock_frame]

theorem serveFetch_frame :
    serveFetch s =
      { s with
        store := (serveFetch s).store } := by
  unfold serveFetch; split
  · split <;> rfl
  · rfl

@[simp] theorem serveFetch_pending : (serveFetch s).pending = s.pending :=
  by rw [serveFetch_frame]
@[simp] theorem serveFetch_pins : (serveFetch s).pins = s.pins :=
  by rw [serveFetch_frame]
@[simp] theorem serveFetch_memory : (serveFetch s).memory = s.memory :=
  by rw [serveFetch_frame]
@[simp] theorem serveFetch_params : (serveFetch s).params = s.params :=
  by rw [serveFetch_frame]
@[simp] theorem serveFetch_channels : (serveFetch s).channels = s.channels :=
  by rw [serveFetch_frame]
@[simp] theorem serveFetch_relay : (serveFetch s).relay = s.relay :=
  by rw [serveFetch_frame]
@[simp] theorem serveFetch_ops : (serveFetch s).ops = s.ops :=
  by rw [serveFetch_frame]
@[simp] theorem serveFetch_drive : (serveFetch s).drive = s.drive :=
  by rw [serveFetch_frame]
@[simp] theorem serveFetch_link : (serveFetch s).link = s.link :=
  by rw [serveFetch_frame]
@[simp] theorem serveFetch_view : (serveFetch s).view = s.view :=
  by rw [serveFetch_frame]
@[simp] theorem serveFetch_journal : (serveFetch s).journal = s.journal :=
  by rw [serveFetch_frame]
@[simp] theorem serveFetch_port : (serveFetch s).port = s.port :=
  by rw [serveFetch_frame]

theorem requestFetch_frame (req : FetchReq) :
    requestFetch req s =
      { s with
        store := (requestFetch req s).store } := by
  unfold requestFetch; rw [serveFetch_frame]

@[simp] theorem requestFetch_pending (req : FetchReq) : (requestFetch req s).pending = s.pending :=
  by rw [requestFetch_frame]
@[simp] theorem requestFetch_pins (req : FetchReq) : (requestFetch req s).pins = s.pins :=
  by rw [requestFetch_frame]
@[simp] theorem requestFetch_memory (req : FetchReq) : (requestFetch req s).memory = s.memory :=
  by rw [requestFetch_frame]
@[simp] theorem requestFetch_params (req : FetchReq) : (requestFetch req s).params = s.params :=
  by rw [requestFetch_frame]
@[simp] theorem requestFetch_channels (req : FetchReq) : (requestFetch req s).channels = s.channels :=
  by rw [requestFetch_frame]
@[simp] theorem requestFetch_relay (req : FetchReq) : (requestFetch req s).relay = s.relay :=
  by rw [requestFetch_frame]
@[simp] theorem requestFetch_ops (req : FetchReq) : (requestFetch req s).ops = s.ops :=
  by rw [requestFetch_frame]
@[simp] theorem requestFetch_drive (req : FetchReq) : (requestFetch req s).drive = s.drive :=
  by rw [requestFetch_frame]
@[simp] theorem requestFetch_link (req : FetchReq) : (requestFetch req s).link = s.link :=
  by rw [requestFetch_frame]
@[simp] theorem requestFetch_view (req : FetchReq) : (requestFetch req s).view = s.view :=
  by rw [requestFetch_frame]
@[simp] theorem requestFetch_journal (req : FetchReq) : (requestFetch req s).journal = s.journal :=
  by rw [requestFetch_frame]
@[simp] theorem requestFetch_port (req : FetchReq) : (requestFetch req s).port = s.port :=
  by rw [requestFetch_frame]

theorem closeAll_frame (st : RecState) (es : List OpEntry) :
    closeAll st es s =
      { s with
        journal := (closeAll st es s).journal } := by
  unfold closeAll
  induction es generalizing s with
  | nil => rfl
  | cons e es ih => rw [List.foldl_cons, ih]; rfl

@[simp] theorem closeAll_pending (st : RecState) (es : List OpEntry) : (closeAll st es s).pending = s.pending :=
  by rw [closeAll_frame]
@[simp] theorem closeAll_pins (st : RecState) (es : List OpEntry) : (closeAll st es s).pins = s.pins :=
  by rw [closeAll_frame]
@[simp] theorem closeAll_memory (st : RecState) (es : List OpEntry) : (closeAll st es s).memory = s.memory :=
  by rw [closeAll_frame]
@[simp] theorem closeAll_params (st : RecState) (es : List OpEntry) : (closeAll st es s).params = s.params :=
  by rw [closeAll_frame]
@[simp] theorem closeAll_channels (st : RecState) (es : List OpEntry) : (closeAll st es s).channels = s.channels :=
  by rw [closeAll_frame]
@[simp] theorem closeAll_relay (st : RecState) (es : List OpEntry) : (closeAll st es s).relay = s.relay :=
  by rw [closeAll_frame]
@[simp] theorem closeAll_ops (st : RecState) (es : List OpEntry) : (closeAll st es s).ops = s.ops :=
  by rw [closeAll_frame]
@[simp] theorem closeAll_drive (st : RecState) (es : List OpEntry) : (closeAll st es s).drive = s.drive :=
  by rw [closeAll_frame]
@[simp] theorem closeAll_store (st : RecState) (es : List OpEntry) : (closeAll st es s).store = s.store :=
  by rw [closeAll_frame]
@[simp] theorem closeAll_link (st : RecState) (es : List OpEntry) : (closeAll st es s).link = s.link :=
  by rw [closeAll_frame]
@[simp] theorem closeAll_view (st : RecState) (es : List OpEntry) : (closeAll st es s).view = s.view :=
  by rw [closeAll_frame]
@[simp] theorem closeAll_port (st : RecState) (es : List OpEntry) : (closeAll st es s).port = s.port :=
  by rw [closeAll_frame]

theorem appendOperation_frame (body : OpBody) (origin : Station) (aff : ChanSet) :
    appendOperation body origin aff s =
      { s with
        ops := (appendOperation body origin aff s).ops
        journal := (appendOperation body origin aff s).journal
        store := (appendOperation body origin aff s).store } := by
  unfold appendOperation openRecord
  dsimp only
  rw [closeAll_frame]
  split <;> rfl

@[simp] theorem appendOperation_pending (body : OpBody) (origin : Station) (aff : ChanSet) : (appendOperation body origin aff s).pending = s.pending :=
  by rw [appendOperation_frame]
@[simp] theorem appendOperation_pins (body : OpBody) (origin : Station) (aff : ChanSet) : (appendOperation body origin aff s).pins = s.pins :=
  by rw [appendOperation_frame]
@[simp] theorem appendOperation_memory (body : OpBody) (origin : Station) (aff : ChanSet) : (appendOperation body origin aff s).memory = s.memory :=
  by rw [appendOperation_frame]
@[simp] theorem appendOperation_params (body : OpBody) (origin : Station) (aff : ChanSet) : (appendOperation body origin aff s).params = s.params :=
  by rw [appendOperation_frame]
@[simp] theorem appendOperation_channels (body : OpBody) (origin : Station) (aff : ChanSet) : (appendOperation body origin aff s).channels = s.channels :=
  by rw [appendOperation_frame]
@[simp] theorem appendOperation_relay (body : OpBody) (origin : Station) (aff : ChanSet) : (appendOperation body origin aff s).relay = s.relay :=
  by rw [appendOperation_frame]
@[simp] theorem appendOperation_drive (body : OpBody) (origin : Station) (aff : ChanSet) : (appendOperation body origin aff s).drive = s.drive :=
  by rw [appendOperation_frame]
@[simp] theorem appendOperation_link (body : OpBody) (origin : Station) (aff : ChanSet) : (appendOperation body origin aff s).link = s.link :=
  by rw [appendOperation_frame]
@[simp] theorem appendOperation_view (body : OpBody) (origin : Station) (aff : ChanSet) : (appendOperation body origin aff s).view = s.view :=
  by rw [appendOperation_frame]
@[simp] theorem appendOperation_port (body : OpBody) (origin : Station) (aff : ChanSet) : (appendOperation body origin aff s).port = s.port :=
  by rw [appendOperation_frame]

theorem considerFrame_frame (mark : Mark) (header : Byte) (m : Msg) :
    considerFrame mark header m s =
      { s with
        ops := (considerFrame mark header m s).ops
        journal := (considerFrame mark header m s).journal
        store := (considerFrame mark header m s).store } := by
  unfold considerFrame
  split
  · rfl
  · split
    · rfl
    · split
      · rw [appendOperation_frame]
      · rfl

@[simp] theorem considerFrame_pending (mark : Mark) (header : Byte) (m : Msg) : (considerFrame mark header m s).pending = s.pending :=
  by rw [considerFrame_frame]
@[simp] theorem considerFrame_pins (mark : Mark) (header : Byte) (m : Msg) : (considerFrame mark header m s).pins = s.pins :=
  by rw [considerFrame_frame]
@[simp] theorem considerFrame_memory (mark : Mark) (header : Byte) (m : Msg) : (considerFrame mark header m s).memory = s.memory :=
  by rw [considerFrame_frame]
@[simp] theorem considerFrame_params (mark : Mark) (header : Byte) (m : Msg) : (considerFrame mark header m s).params = s.params :=
  by rw [considerFrame_frame]
@[simp] theorem considerFrame_channels (mark : Mark) (header : Byte) (m : Msg) : (considerFrame mark header m s).channels = s.channels :=
  by rw [considerFrame_frame]
@[simp] theorem considerFrame_relay (mark : Mark) (header : Byte) (m : Msg) : (considerFrame mark header m s).relay = s.relay :=
  by rw [considerFrame_frame]
@[simp] theorem considerFrame_drive (mark : Mark) (header : Byte) (m : Msg) : (considerFrame mark header m s).drive = s.drive :=
  by rw [considerFrame_frame]
@[simp] theorem considerFrame_link (mark : Mark) (header : Byte) (m : Msg) : (considerFrame mark header m s).link = s.link :=
  by rw [considerFrame_frame]
@[simp] theorem considerFrame_view (mark : Mark) (header : Byte) (m : Msg) : (considerFrame mark header m s).view = s.view :=
  by rw [considerFrame_frame]
@[simp] theorem considerFrame_port (mark : Mark) (header : Byte) (m : Msg) : (considerFrame mark header m s).port = s.port :=
  by rw [considerFrame_frame]

theorem askFetch_frame (e : OpEntry) (level : Fin 256) (slot : Fin 128) :
    askFetch e level slot s =
      { s with
        ops := (askFetch e level slot s).ops
        store := (askFetch e level slot s).store } := by
  unfold askFetch; split
  · rw [requestFetch_frame]; rfl
  · rfl

@[simp] theorem askFetch_pending (e : OpEntry) (level : Fin 256) (slot : Fin 128) : (askFetch e level slot s).pending = s.pending :=
  by rw [askFetch_frame]
@[simp] theorem askFetch_pins (e : OpEntry) (level : Fin 256) (slot : Fin 128) : (askFetch e level slot s).pins = s.pins :=
  by rw [askFetch_frame]
@[simp] theorem askFetch_memory (e : OpEntry) (level : Fin 256) (slot : Fin 128) : (askFetch e level slot s).memory = s.memory :=
  by rw [askFetch_frame]
@[simp] theorem askFetch_params (e : OpEntry) (level : Fin 256) (slot : Fin 128) : (askFetch e level slot s).params = s.params :=
  by rw [askFetch_frame]
@[simp] theorem askFetch_channels (e : OpEntry) (level : Fin 256) (slot : Fin 128) : (askFetch e level slot s).channels = s.channels :=
  by rw [askFetch_frame]
@[simp] theorem askFetch_relay (e : OpEntry) (level : Fin 256) (slot : Fin 128) : (askFetch e level slot s).relay = s.relay :=
  by rw [askFetch_frame]
@[simp] theorem askFetch_drive (e : OpEntry) (level : Fin 256) (slot : Fin 128) : (askFetch e level slot s).drive = s.drive :=
  by rw [askFetch_frame]
@[simp] theorem askFetch_link (e : OpEntry) (level : Fin 256) (slot : Fin 128) : (askFetch e level slot s).link = s.link :=
  by rw [askFetch_frame]
@[simp] theorem askFetch_view (e : OpEntry) (level : Fin 256) (slot : Fin 128) : (askFetch e level slot s).view = s.view :=
  by rw [askFetch_frame]
@[simp] theorem askFetch_journal (e : OpEntry) (level : Fin 256) (slot : Fin 128) : (askFetch e level slot s).journal = s.journal :=
  by rw [askFetch_frame]
@[simp] theorem askFetch_port (e : OpEntry) (level : Fin 256) (slot : Fin 128) : (askFetch e level slot s).port = s.port :=
  by rw [askFetch_frame]

theorem issueWaitingRecall_frame :
    issueWaitingRecall s =
      { s with
        ops := (issueWaitingRecall s).ops
        store := (issueWaitingRecall s).store } := by
  unfold issueWaitingRecall; split
  · rfl
  · split
    · split
      · rw [askFetch_frame]
      · rfl
    · rfl

@[simp] theorem issueWaitingRecall_pending : (issueWaitingRecall s).pending = s.pending :=
  by rw [issueWaitingRecall_frame]
@[simp] theorem issueWaitingRecall_pins : (issueWaitingRecall s).pins = s.pins :=
  by rw [issueWaitingRecall_frame]
@[simp] theorem issueWaitingRecall_memory : (issueWaitingRecall s).memory = s.memory :=
  by rw [issueWaitingRecall_frame]
@[simp] theorem issueWaitingRecall_params : (issueWaitingRecall s).params = s.params :=
  by rw [issueWaitingRecall_frame]
@[simp] theorem issueWaitingRecall_channels : (issueWaitingRecall s).channels = s.channels :=
  by rw [issueWaitingRecall_frame]
@[simp] theorem issueWaitingRecall_relay : (issueWaitingRecall s).relay = s.relay :=
  by rw [issueWaitingRecall_frame]
@[simp] theorem issueWaitingRecall_drive : (issueWaitingRecall s).drive = s.drive :=
  by rw [issueWaitingRecall_frame]
@[simp] theorem issueWaitingRecall_link : (issueWaitingRecall s).link = s.link :=
  by rw [issueWaitingRecall_frame]
@[simp] theorem issueWaitingRecall_view : (issueWaitingRecall s).view = s.view :=
  by rw [issueWaitingRecall_frame]
@[simp] theorem issueWaitingRecall_journal : (issueWaitingRecall s).journal = s.journal :=
  by rw [issueWaitingRecall_frame]
@[simp] theorem issueWaitingRecall_port : (issueWaitingRecall s).port = s.port :=
  by rw [issueWaitingRecall_frame]

theorem planChannel_frame (c : Chan) (t : Bool) :
    planChannel c t s =
      { s with
        channels := (planChannel c t s).channels
        drive := (planChannel c t s).drive } := rfl

@[simp] theorem planChannel_pending (c : Chan) (t : Bool) : (planChannel c t s).pending = s.pending :=
  by rw [planChannel_frame]
@[simp] theorem planChannel_pins (c : Chan) (t : Bool) : (planChannel c t s).pins = s.pins :=
  by rw [planChannel_frame]
@[simp] theorem planChannel_memory (c : Chan) (t : Bool) : (planChannel c t s).memory = s.memory :=
  by rw [planChannel_frame]
@[simp] theorem planChannel_params (c : Chan) (t : Bool) : (planChannel c t s).params = s.params :=
  by rw [planChannel_frame]
@[simp] theorem planChannel_relay (c : Chan) (t : Bool) : (planChannel c t s).relay = s.relay :=
  by rw [planChannel_frame]
@[simp] theorem planChannel_ops (c : Chan) (t : Bool) : (planChannel c t s).ops = s.ops :=
  by rw [planChannel_frame]
@[simp] theorem planChannel_store (c : Chan) (t : Bool) : (planChannel c t s).store = s.store :=
  by rw [planChannel_frame]
@[simp] theorem planChannel_link (c : Chan) (t : Bool) : (planChannel c t s).link = s.link :=
  by rw [planChannel_frame]
@[simp] theorem planChannel_view (c : Chan) (t : Bool) : (planChannel c t s).view = s.view :=
  by rw [planChannel_frame]
@[simp] theorem planChannel_journal (c : Chan) (t : Bool) : (planChannel c t s).journal = s.journal :=
  by rw [planChannel_frame]
@[simp] theorem planChannel_port (c : Chan) (t : Bool) : (planChannel c t s).port = s.port :=
  by rw [planChannel_frame]

theorem planAll_frame (aff : ChanSet) (t : Chan → Bool) (cs : List Chan) :
    planAll aff t cs s =
      { s with
        channels := (planAll aff t cs s).channels
        drive := (planAll aff t cs s).drive } := by
  unfold planAll
  induction cs generalizing s with
  | nil => rfl
  | cons c cs ih => rw [List.foldl_cons, ih]; split <;> rfl

@[simp] theorem planAll_pending (aff : ChanSet) (t : Chan → Bool) (cs : List Chan) : (planAll aff t cs s).pending = s.pending :=
  by rw [planAll_frame]
@[simp] theorem planAll_pins (aff : ChanSet) (t : Chan → Bool) (cs : List Chan) : (planAll aff t cs s).pins = s.pins :=
  by rw [planAll_frame]
@[simp] theorem planAll_memory (aff : ChanSet) (t : Chan → Bool) (cs : List Chan) : (planAll aff t cs s).memory = s.memory :=
  by rw [planAll_frame]
@[simp] theorem planAll_params (aff : ChanSet) (t : Chan → Bool) (cs : List Chan) : (planAll aff t cs s).params = s.params :=
  by rw [planAll_frame]
@[simp] theorem planAll_relay (aff : ChanSet) (t : Chan → Bool) (cs : List Chan) : (planAll aff t cs s).relay = s.relay :=
  by rw [planAll_frame]
@[simp] theorem planAll_ops (aff : ChanSet) (t : Chan → Bool) (cs : List Chan) : (planAll aff t cs s).ops = s.ops :=
  by rw [planAll_frame]
@[simp] theorem planAll_store (aff : ChanSet) (t : Chan → Bool) (cs : List Chan) : (planAll aff t cs s).store = s.store :=
  by rw [planAll_frame]
@[simp] theorem planAll_link (aff : ChanSet) (t : Chan → Bool) (cs : List Chan) : (planAll aff t cs s).link = s.link :=
  by rw [planAll_frame]
@[simp] theorem planAll_view (aff : ChanSet) (t : Chan → Bool) (cs : List Chan) : (planAll aff t cs s).view = s.view :=
  by rw [planAll_frame]
@[simp] theorem planAll_journal (aff : ChanSet) (t : Chan → Bool) (cs : List Chan) : (planAll aff t cs s).journal = s.journal :=
  by rw [planAll_frame]
@[simp] theorem planAll_port (aff : ChanSet) (t : Chan → Bool) (cs : List Chan) : (planAll aff t cs s).port = s.port :=
  by rw [planAll_frame]

theorem becomeDriving_frame (e : OpEntry) :
    becomeDriving e s =
      { s with
        ops := (becomeDriving e s).ops
        journal := (becomeDriving e s).journal } := by
  unfold becomeDriving; dsimp only; split <;> rfl

@[simp] theorem becomeDriving_pending (e : OpEntry) : (becomeDriving e s).pending = s.pending :=
  by rw [becomeDriving_frame]
@[simp] theorem becomeDriving_pins (e : OpEntry) : (becomeDriving e s).pins = s.pins :=
  by rw [becomeDriving_frame]
@[simp] theorem becomeDriving_memory (e : OpEntry) : (becomeDriving e s).memory = s.memory :=
  by rw [becomeDriving_frame]
@[simp] theorem becomeDriving_params (e : OpEntry) : (becomeDriving e s).params = s.params :=
  by rw [becomeDriving_frame]
@[simp] theorem becomeDriving_channels (e : OpEntry) : (becomeDriving e s).channels = s.channels :=
  by rw [becomeDriving_frame]
@[simp] theorem becomeDriving_relay (e : OpEntry) : (becomeDriving e s).relay = s.relay :=
  by rw [becomeDriving_frame]
@[simp] theorem becomeDriving_drive (e : OpEntry) : (becomeDriving e s).drive = s.drive :=
  by rw [becomeDriving_frame]
@[simp] theorem becomeDriving_store (e : OpEntry) : (becomeDriving e s).store = s.store :=
  by rw [becomeDriving_frame]
@[simp] theorem becomeDriving_link (e : OpEntry) : (becomeDriving e s).link = s.link :=
  by rw [becomeDriving_frame]
@[simp] theorem becomeDriving_view (e : OpEntry) : (becomeDriving e s).view = s.view :=
  by rw [becomeDriving_frame]
@[simp] theorem becomeDriving_port (e : OpEntry) : (becomeDriving e s).port = s.port :=
  by rw [becomeDriving_frame]

theorem plan_frame (e : OpEntry) (t : Chan → Bool) :
    plan e t s =
      { s with
        channels := (plan e t s).channels
        drive := (plan e t s).drive
        relay := (plan e t s).relay
        ops := (plan e t s).ops
        link := (plan e t s).link
        journal := (plan e t s).journal } := by
  unfold plan
  rw [becomeDriving_frame, closeDriving_frame, planAll_frame]; rfl

@[simp] theorem plan_pending (e : OpEntry) (t : Chan → Bool) : (plan e t s).pending = s.pending :=
  by rw [plan_frame]
@[simp] theorem plan_pins (e : OpEntry) (t : Chan → Bool) : (plan e t s).pins = s.pins :=
  by rw [plan_frame]
@[simp] theorem plan_memory (e : OpEntry) (t : Chan → Bool) : (plan e t s).memory = s.memory :=
  by rw [plan_frame]
@[simp] theorem plan_params (e : OpEntry) (t : Chan → Bool) : (plan e t s).params = s.params :=
  by rw [plan_frame]
@[simp] theorem plan_store (e : OpEntry) (t : Chan → Bool) : (plan e t s).store = s.store :=
  by rw [plan_frame]
@[simp] theorem plan_view (e : OpEntry) (t : Chan → Bool) : (plan e t s).view = s.view :=
  by rw [plan_frame]
@[simp] theorem plan_port (e : OpEntry) (t : Chan → Bool) : (plan e t s).port = s.port :=
  by rw [plan_frame]

theorem takeCapture_frame (e : OpEntry) (level : Fin 256) (slot : Fin 128) :
    takeCapture e level slot s =
      { s with
        ops := (takeCapture e level slot s).ops
        link := (takeCapture e level slot s).link
        store := (takeCapture e level slot s).store
        journal := (takeCapture e level slot s).journal } := by
  unfold takeCapture enterWrite
  cases enterQueue s.store.queue (.slot level slot) (writtenRecord (snapshot e.affected s)) e.record <;> rfl

@[simp] theorem takeCapture_pending (e : OpEntry) (level : Fin 256) (slot : Fin 128) : (takeCapture e level slot s).pending = s.pending :=
  by rw [takeCapture_frame]
@[simp] theorem takeCapture_pins (e : OpEntry) (level : Fin 256) (slot : Fin 128) : (takeCapture e level slot s).pins = s.pins :=
  by rw [takeCapture_frame]
@[simp] theorem takeCapture_memory (e : OpEntry) (level : Fin 256) (slot : Fin 128) : (takeCapture e level slot s).memory = s.memory :=
  by rw [takeCapture_frame]
@[simp] theorem takeCapture_params (e : OpEntry) (level : Fin 256) (slot : Fin 128) : (takeCapture e level slot s).params = s.params :=
  by rw [takeCapture_frame]
@[simp] theorem takeCapture_channels (e : OpEntry) (level : Fin 256) (slot : Fin 128) : (takeCapture e level slot s).channels = s.channels :=
  by rw [takeCapture_frame]
@[simp] theorem takeCapture_relay (e : OpEntry) (level : Fin 256) (slot : Fin 128) : (takeCapture e level slot s).relay = s.relay :=
  by rw [takeCapture_frame]
@[simp] theorem takeCapture_drive (e : OpEntry) (level : Fin 256) (slot : Fin 128) : (takeCapture e level slot s).drive = s.drive :=
  by rw [takeCapture_frame]
@[simp] theorem takeCapture_view (e : OpEntry) (level : Fin 256) (slot : Fin 128) : (takeCapture e level slot s).view = s.view :=
  by rw [takeCapture_frame]
@[simp] theorem takeCapture_port (e : OpEntry) (level : Fin 256) (slot : Fin 128) : (takeCapture e level slot s).port = s.port :=
  by rw [takeCapture_frame]

theorem takeUp_frame (e : OpEntry) :
    takeUp e s =
      { s with
        channels := (takeUp e s).channels
        drive := (takeUp e s).drive
        relay := (takeUp e s).relay
        ops := (takeUp e s).ops
        link := (takeUp e s).link
        store := (takeUp e s).store
        journal := (takeUp e s).journal } := by
  unfold takeUp; split
  · rw [askFetch_frame]
  · rw [takeCapture_frame]
  · rw [plan_frame]

@[simp] theorem takeUp_pending (e : OpEntry) : (takeUp e s).pending = s.pending :=
  by rw [takeUp_frame]
@[simp] theorem takeUp_pins (e : OpEntry) : (takeUp e s).pins = s.pins :=
  by rw [takeUp_frame]
@[simp] theorem takeUp_memory (e : OpEntry) : (takeUp e s).memory = s.memory :=
  by rw [takeUp_frame]
@[simp] theorem takeUp_params (e : OpEntry) : (takeUp e s).params = s.params :=
  by rw [takeUp_frame]
@[simp] theorem takeUp_view (e : OpEntry) : (takeUp e s).view = s.view :=
  by rw [takeUp_frame]
@[simp] theorem takeUp_port (e : OpEntry) : (takeUp e s).port = s.port :=
  by rw [takeUp_frame]

theorem handMove_frame (c : Chan) (on : Bool) :
    handMove c on s =
      { s with
        channels := (handMove c on s).channels
        drive := (handMove c on s).drive
        relay := (handMove c on s).relay
        ops := (handMove c on s).ops
        link := (handMove c on s).link
        store := (handMove c on s).store
        journal := (handMove c on s).journal } := by
  unfold handMove; dsimp only
  rw [handOver_frame]
  split
  · rw [closingCheck_frame]; rfl
  · rfl

@[simp] theorem handMove_pending (c : Chan) (on : Bool) : (handMove c on s).pending = s.pending :=
  by rw [handMove_frame]
@[simp] theorem handMove_pins (c : Chan) (on : Bool) : (handMove c on s).pins = s.pins :=
  by rw [handMove_frame]
@[simp] theorem handMove_memory (c : Chan) (on : Bool) : (handMove c on s).memory = s.memory :=
  by rw [handMove_frame]
@[simp] theorem handMove_params (c : Chan) (on : Bool) : (handMove c on s).params = s.params :=
  by rw [handMove_frame]
@[simp] theorem handMove_view (c : Chan) (on : Bool) : (handMove c on s).view = s.view :=
  by rw [handMove_frame]
@[simp] theorem handMove_port (c : Chan) (on : Bool) : (handMove c on s).port = s.port :=
  by rw [handMove_frame]

theorem litPress_frame (c : Chan) :
    litPress c s =
      { s with
        channels := (litPress c s).channels
        relay := (litPress c s).relay
        ops := (litPress c s).ops
        link := (litPress c s).link
        store := (litPress c s).store
        journal := (litPress c s).journal } := by
  unfold litPress; dsimp only
  rw [handOver_frame]; rfl

@[simp] theorem litPress_pending (c : Chan) : (litPress c s).pending = s.pending :=
  by rw [litPress_frame]
@[simp] theorem litPress_pins (c : Chan) : (litPress c s).pins = s.pins :=
  by rw [litPress_frame]
@[simp] theorem litPress_memory (c : Chan) : (litPress c s).memory = s.memory :=
  by rw [litPress_frame]
@[simp] theorem litPress_params (c : Chan) : (litPress c s).params = s.params :=
  by rw [litPress_frame]
@[simp] theorem litPress_drive (c : Chan) : (litPress c s).drive = s.drive :=
  by rw [litPress_frame]
@[simp] theorem litPress_view (c : Chan) : (litPress c s).view = s.view :=
  by rw [litPress_frame]
@[simp] theorem litPress_port (c : Chan) : (litPress c s).port = s.port :=
  by rw [litPress_frame]

theorem debouncedChange_frame (c : Chan) (on : Bool) :
    debouncedChange c on s =
      { s with
        channels := (debouncedChange c on s).channels
        drive := (debouncedChange c on s).drive
        relay := (debouncedChange c on s).relay
        ops := (debouncedChange c on s).ops
        link := (debouncedChange c on s).link
        store := (debouncedChange c on s).store
        journal := (debouncedChange c on s).journal } := by
  unfold debouncedChange workingChange movedChange; dsimp only
  split
  · rfl
  · rfl
  · split
    · rfl
    · split
      · rw [handMove_frame]
      · rw [handMove_frame]
      · rfl
    · split
      · rw [litPress_frame]
      · rfl

@[simp] theorem debouncedChange_pending (c : Chan) (on : Bool) : (debouncedChange c on s).pending = s.pending :=
  by rw [debouncedChange_frame]
@[simp] theorem debouncedChange_pins (c : Chan) (on : Bool) : (debouncedChange c on s).pins = s.pins :=
  by rw [debouncedChange_frame]
@[simp] theorem debouncedChange_memory (c : Chan) (on : Bool) : (debouncedChange c on s).memory = s.memory :=
  by rw [debouncedChange_frame]
@[simp] theorem debouncedChange_params (c : Chan) (on : Bool) : (debouncedChange c on s).params = s.params :=
  by rw [debouncedChange_frame]
@[simp] theorem debouncedChange_view (c : Chan) (on : Bool) : (debouncedChange c on s).view = s.view :=
  by rw [debouncedChange_frame]
@[simp] theorem debouncedChange_port (c : Chan) (on : Bool) : (debouncedChange c on s).port = s.port :=
  by rw [debouncedChange_frame]

theorem verifyMove_frame (c : Chan) (dir : Bool) (a : Attempt) :
    verifyMove c dir a s =
      { s with
        channels := (verifyMove c dir a s).channels
        drive := (verifyMove c dir a s).drive
        relay := (verifyMove c dir a s).relay
        ops := (verifyMove c dir a s).ops
        store := (verifyMove c dir a s).store
        journal := (verifyMove c dir a s).journal } := by
  unfold verifyMove; dsimp only
  split
  · unfold verifyMatch; rw [closingCheck_frame]; rfl
  · split
    · split
      · rfl
      · unfold stuckVerdict; dsimp only; rw [closingCheck_frame]; rfl
    · rfl

@[simp] theorem verifyMove_pending (c : Chan) (dir : Bool) (a : Attempt) : (verifyMove c dir a s).pending = s.pending :=
  by rw [verifyMove_frame]
@[simp] theorem verifyMove_pins (c : Chan) (dir : Bool) (a : Attempt) : (verifyMove c dir a s).pins = s.pins :=
  by rw [verifyMove_frame]
@[simp] theorem verifyMove_memory (c : Chan) (dir : Bool) (a : Attempt) : (verifyMove c dir a s).memory = s.memory :=
  by rw [verifyMove_frame]
@[simp] theorem verifyMove_params (c : Chan) (dir : Bool) (a : Attempt) : (verifyMove c dir a s).params = s.params :=
  by rw [verifyMove_frame]
@[simp] theorem verifyMove_link (c : Chan) (dir : Bool) (a : Attempt) : (verifyMove c dir a s).link = s.link :=
  by rw [verifyMove_frame]
@[simp] theorem verifyMove_view (c : Chan) (dir : Bool) (a : Attempt) : (verifyMove c dir a s).view = s.view :=
  by rw [verifyMove_frame]
@[simp] theorem verifyMove_port (c : Chan) (dir : Bool) (a : Attempt) : (verifyMove c dir a s).port = s.port :=
  by rw [verifyMove_frame]

theorem countDone_frame (n : Nat) :
    countDone n s =
      { s with
        ops := (countDone n s).ops
        journal := (countDone n s).journal } := by
  induction n generalizing s with
  | zero => rfl
  | succ n ih => rw [countDone, ih]; rfl

@[simp] theorem countDone_pending (n : Nat) : (countDone n s).pending = s.pending :=
  by rw [countDone_frame]
@[simp] theorem countDone_pins (n : Nat) : (countDone n s).pins = s.pins :=
  by rw [countDone_frame]
@[simp] theorem countDone_memory (n : Nat) : (countDone n s).memory = s.memory :=
  by rw [countDone_frame]
@[simp] theorem countDone_params (n : Nat) : (countDone n s).params = s.params :=
  by rw [countDone_frame]
@[simp] theorem countDone_channels (n : Nat) : (countDone n s).channels = s.channels :=
  by rw [countDone_frame]
@[simp] theorem countDone_relay (n : Nat) : (countDone n s).relay = s.relay :=
  by rw [countDone_frame]
@[simp] theorem countDone_drive (n : Nat) : (countDone n s).drive = s.drive :=
  by rw [countDone_frame]
@[simp] theorem countDone_store (n : Nat) : (countDone n s).store = s.store :=
  by rw [countDone_frame]
@[simp] theorem countDone_link (n : Nat) : (countDone n s).link = s.link :=
  by rw [countDone_frame]
@[simp] theorem countDone_view (n : Nat) : (countDone n s).view = s.view :=
  by rw [countDone_frame]
@[simp] theorem countDone_port (n : Nat) : (countDone n s).port = s.port :=
  by rw [countDone_frame]

theorem restoreSupply_frame :
    restoreSupply s =
      { s with
        channels := (restoreSupply s).channels
        drive := (restoreSupply s).drive
        ops := (restoreSupply s).ops
        store := (restoreSupply s).store
        journal := (restoreSupply s).journal } := by
  have h : ∃ c d o st j, restoreSupply s =
      { s with channels := c, drive := d, ops := o, store := st, journal := j } := by
    unfold restoreSupply; dsimp only
    rw [closingCheck_frame, reportFault_frame, countDone_frame]; exact ⟨_, _, _, _, _, rfl⟩
  obtain ⟨_, _, _, _, _, h⟩ := h
  rw [h]

@[simp] theorem restoreSupply_pending : (restoreSupply s).pending = s.pending :=
  by rw [restoreSupply_frame]
@[simp] theorem restoreSupply_pins : (restoreSupply s).pins = s.pins :=
  by rw [restoreSupply_frame]
@[simp] theorem restoreSupply_memory : (restoreSupply s).memory = s.memory :=
  by rw [restoreSupply_frame]
@[simp] theorem restoreSupply_params : (restoreSupply s).params = s.params :=
  by rw [restoreSupply_frame]
@[simp] theorem restoreSupply_relay : (restoreSupply s).relay = s.relay :=
  by rw [restoreSupply_frame]
@[simp] theorem restoreSupply_link : (restoreSupply s).link = s.link :=
  by rw [restoreSupply_frame]
@[simp] theorem restoreSupply_view : (restoreSupply s).view = s.view :=
  by rw [restoreSupply_frame]
@[simp] theorem restoreSupply_port : (restoreSupply s).port = s.port :=
  by rw [restoreSupply_frame]

theorem deliverFetch_frame (req : FetchReq) (bytes : List Byte) :
    deliverFetch req bytes s =
      { s with
        channels := (deliverFetch req bytes s).channels
        drive := (deliverFetch req bytes s).drive
        relay := (deliverFetch req bytes s).relay
        ops := (deliverFetch req bytes s).ops
        link := (deliverFetch req bytes s).link
        store := (deliverFetch req bytes s).store
        journal := (deliverFetch req bytes s).journal
        port := (deliverFetch req bytes s).port } := by
  unfold deliverFetch recallOutcome failRecall; dsimp only
  split
  · split
    · rfl
    · split
      · split
        · rw [plan_frame]
        · rw [plan_frame]
        · rfl
      · rfl
  · rfl
  · rfl

@[simp] theorem deliverFetch_pending (req : FetchReq) (bytes : List Byte) : (deliverFetch req bytes s).pending = s.pending :=
  by rw [deliverFetch_frame]
@[simp] theorem deliverFetch_pins (req : FetchReq) (bytes : List Byte) : (deliverFetch req bytes s).pins = s.pins :=
  by rw [deliverFetch_frame]
@[simp] theorem deliverFetch_memory (req : FetchReq) (bytes : List Byte) : (deliverFetch req bytes s).memory = s.memory :=
  by rw [deliverFetch_frame]
@[simp] theorem deliverFetch_params (req : FetchReq) (bytes : List Byte) : (deliverFetch req bytes s).params = s.params :=
  by rw [deliverFetch_frame]
@[simp] theorem deliverFetch_view (req : FetchReq) (bytes : List Byte) : (deliverFetch req bytes s).view = s.view :=
  by rw [deliverFetch_frame]

theorem issueWrite_frame :
    issueWrite s = { s with store := (issueWrite s).store } := by
  unfold issueWrite; split
  · rfl
  · split <;> rfl

@[simp] theorem issueWrite_fetch : (issueWrite s).store.fetch = s.store.fetch := by
  unfold issueWrite; split
  · rfl
  · split <;> rfl

theorem afterWrite_frame :
    afterWrite s =
      { s with
        store := (afterWrite s).store
        journal := (afterWrite s).journal } := by
  unfold afterWrite; rw [issueWrite_frame, serveMark_frame, serveFetch_frame]

@[simp] theorem afterWrite_pending : (afterWrite s).pending = s.pending :=
  by rw [afterWrite_frame]
@[simp] theorem afterWrite_pins : (afterWrite s).pins = s.pins :=
  by rw [afterWrite_frame]
@[simp] theorem afterWrite_memory : (afterWrite s).memory = s.memory :=
  by rw [afterWrite_frame]
@[simp] theorem afterWrite_params : (afterWrite s).params = s.params :=
  by rw [afterWrite_frame]
@[simp] theorem afterWrite_channels : (afterWrite s).channels = s.channels :=
  by rw [afterWrite_frame]
@[simp] theorem afterWrite_relay : (afterWrite s).relay = s.relay :=
  by rw [afterWrite_frame]
@[simp] theorem afterWrite_ops : (afterWrite s).ops = s.ops :=
  by rw [afterWrite_frame]
@[simp] theorem afterWrite_drive : (afterWrite s).drive = s.drive :=
  by rw [afterWrite_frame]
@[simp] theorem afterWrite_link : (afterWrite s).link = s.link :=
  by rw [afterWrite_frame]
@[simp] theorem afterWrite_view : (afterWrite s).view = s.view :=
  by rw [afterWrite_frame]
@[simp] theorem afterWrite_port : (afterWrite s).port = s.port :=
  by rw [afterWrite_frame]

theorem completeWrite_frame (e : WriteEntry) :
    completeWrite e s =
      { s with
        memory := (completeWrite e s).memory
        store := (completeWrite e s).store
        journal := (completeWrite e s).journal } := by
  unfold completeWrite; rw [afterWrite_frame]; rfl

@[simp] theorem completeWrite_pending (e : WriteEntry) : (completeWrite e s).pending = s.pending :=
  by rw [completeWrite_frame]
@[simp] theorem completeWrite_pins (e : WriteEntry) : (completeWrite e s).pins = s.pins :=
  by rw [completeWrite_frame]
@[simp] theorem completeWrite_params (e : WriteEntry) : (completeWrite e s).params = s.params :=
  by rw [completeWrite_frame]
@[simp] theorem completeWrite_channels (e : WriteEntry) : (completeWrite e s).channels = s.channels :=
  by rw [completeWrite_frame]
@[simp] theorem completeWrite_relay (e : WriteEntry) : (completeWrite e s).relay = s.relay :=
  by rw [completeWrite_frame]
@[simp] theorem completeWrite_ops (e : WriteEntry) : (completeWrite e s).ops = s.ops :=
  by rw [completeWrite_frame]
@[simp] theorem completeWrite_drive (e : WriteEntry) : (completeWrite e s).drive = s.drive :=
  by rw [completeWrite_frame]
@[simp] theorem completeWrite_link (e : WriteEntry) : (completeWrite e s).link = s.link :=
  by rw [completeWrite_frame]
@[simp] theorem completeWrite_view (e : WriteEntry) : (completeWrite e s).view = s.view :=
  by rw [completeWrite_frame]
@[simp] theorem completeWrite_port (e : WriteEntry) : (completeWrite e s).port = s.port :=
  by rw [completeWrite_frame]

theorem faultWrite_frame (e : WriteEntry) :
    faultWrite e s =
      { s with
        memory := (faultWrite e s).memory
        torn := (faultWrite e s).torn
        store := (faultWrite e s).store
        journal := (faultWrite e s).journal
        ops := (faultWrite e s).ops } := by
  unfold faultWrite faultMemory; dsimp only
  rw [afterWrite_frame]
  split <;> rfl

@[simp] theorem faultWrite_pending (e : WriteEntry) : (faultWrite e s).pending = s.pending :=
  by rw [faultWrite_frame]
@[simp] theorem faultWrite_pins (e : WriteEntry) : (faultWrite e s).pins = s.pins :=
  by rw [faultWrite_frame]
@[simp] theorem faultWrite_params (e : WriteEntry) : (faultWrite e s).params = s.params :=
  by rw [faultWrite_frame]
@[simp] theorem faultWrite_channels (e : WriteEntry) : (faultWrite e s).channels = s.channels :=
  by rw [faultWrite_frame]
@[simp] theorem faultWrite_relay (e : WriteEntry) : (faultWrite e s).relay = s.relay :=
  by rw [faultWrite_frame]
@[simp] theorem faultWrite_drive (e : WriteEntry) : (faultWrite e s).drive = s.drive :=
  by rw [faultWrite_frame]
@[simp] theorem faultWrite_link (e : WriteEntry) : (faultWrite e s).link = s.link :=
  by rw [faultWrite_frame]
@[simp] theorem faultWrite_view (e : WriteEntry) : (faultWrite e s).view = s.view :=
  by rw [faultWrite_frame]
@[simp] theorem faultWrite_port (e : WriteEntry) : (faultWrite e s).port = s.port :=
  by rw [faultWrite_frame]

theorem sendStage_frame :
    sendStage s =
      { s with
        cresc := (sendStage s).cresc
        link := (sendStage s).link
        journal := (sendStage s).journal
        ops := (sendStage s).ops
        store := (sendStage s).store } := by
  unfold sendStage; rw [handOver_frame]

@[simp] theorem sendStage_pending : (sendStage s).pending = s.pending :=
  by rw [sendStage_frame]
@[simp] theorem sendStage_pins : (sendStage s).pins = s.pins :=
  by rw [sendStage_frame]
@[simp] theorem sendStage_memory : (sendStage s).memory = s.memory :=
  by rw [sendStage_frame]
@[simp] theorem sendStage_params : (sendStage s).params = s.params :=
  by rw [sendStage_frame]
@[simp] theorem sendStage_channels : (sendStage s).channels = s.channels :=
  by rw [sendStage_frame]
@[simp] theorem sendStage_relay : (sendStage s).relay = s.relay :=
  by rw [sendStage_frame]
@[simp] theorem sendStage_drive : (sendStage s).drive = s.drive :=
  by rw [sendStage_frame]
@[simp] theorem sendStage_view : (sendStage s).view = s.view :=
  by rw [sendStage_frame]
@[simp] theorem sendStage_port : (sendStage s).port = s.port :=
  by rw [sendStage_frame]

theorem originationCheck_frame :
    originationCheck s =
      { s with
        cresc := (originationCheck s).cresc
        link := (originationCheck s).link
        journal := (originationCheck s).journal
        ops := (originationCheck s).ops
        store := (originationCheck s).store } := by
  unfold originationCheck; split
  · rw [sendStage_frame]
  · rfl

@[simp] theorem originationCheck_pending : (originationCheck s).pending = s.pending :=
  by rw [originationCheck_frame]
@[simp] theorem originationCheck_pins : (originationCheck s).pins = s.pins :=
  by rw [originationCheck_frame]
@[simp] theorem originationCheck_memory : (originationCheck s).memory = s.memory :=
  by rw [originationCheck_frame]
@[simp] theorem originationCheck_params : (originationCheck s).params = s.params :=
  by rw [originationCheck_frame]
@[simp] theorem originationCheck_channels : (originationCheck s).channels = s.channels :=
  by rw [originationCheck_frame]
@[simp] theorem originationCheck_relay : (originationCheck s).relay = s.relay :=
  by rw [originationCheck_frame]
@[simp] theorem originationCheck_drive : (originationCheck s).drive = s.drive :=
  by rw [originationCheck_frame]
@[simp] theorem originationCheck_view : (originationCheck s).view = s.view :=
  by rw [originationCheck_frame]
@[simp] theorem originationCheck_port : (originationCheck s).port = s.port :=
  by rw [originationCheck_frame]

theorem takeSample_frame (r : Fin 1024) :
    takeSample r s =
      { s with
        cresc := (takeSample r s).cresc
        link := (takeSample r s).link
        journal := (takeSample r s).journal
        ops := (takeSample r s).ops
        store := (takeSample r s).store } := by
  unfold takeSample stageUpdate; dsimp only
  split
  · rfl
  · split
    · rw [originationCheck_frame]
    · rfl

@[simp] theorem takeSample_pending (r : Fin 1024) : (takeSample r s).pending = s.pending :=
  by rw [takeSample_frame]
@[simp] theorem takeSample_pins (r : Fin 1024) : (takeSample r s).pins = s.pins :=
  by rw [takeSample_frame]
@[simp] theorem takeSample_memory (r : Fin 1024) : (takeSample r s).memory = s.memory :=
  by rw [takeSample_frame]
@[simp] theorem takeSample_params (r : Fin 1024) : (takeSample r s).params = s.params :=
  by rw [takeSample_frame]
@[simp] theorem takeSample_channels (r : Fin 1024) : (takeSample r s).channels = s.channels :=
  by rw [takeSample_frame]
@[simp] theorem takeSample_relay (r : Fin 1024) : (takeSample r s).relay = s.relay :=
  by rw [takeSample_frame]
@[simp] theorem takeSample_drive (r : Fin 1024) : (takeSample r s).drive = s.drive :=
  by rw [takeSample_frame]
@[simp] theorem takeSample_view (r : Fin 1024) : (takeSample r s).view = s.view :=
  by rw [takeSample_frame]
@[simp] theorem takeSample_port (r : Fin 1024) : (takeSample r s).port = s.port :=
  by rw [takeSample_frame]

theorem endInterval_frame :
    endInterval s =
      { s with
        cresc := (endInterval s).cresc
        link := (endInterval s).link
        journal := (endInterval s).journal
        ops := (endInterval s).ops
        store := (endInterval s).store } := by
  unfold endInterval; split
  · rw [sendStage_frame]
  · rfl

@[simp] theorem endInterval_pending : (endInterval s).pending = s.pending :=
  by rw [endInterval_frame]
@[simp] theorem endInterval_pins : (endInterval s).pins = s.pins :=
  by rw [endInterval_frame]
@[simp] theorem endInterval_memory : (endInterval s).memory = s.memory :=
  by rw [endInterval_frame]
@[simp] theorem endInterval_params : (endInterval s).params = s.params :=
  by rw [endInterval_frame]
@[simp] theorem endInterval_channels : (endInterval s).channels = s.channels :=
  by rw [endInterval_frame]
@[simp] theorem endInterval_relay : (endInterval s).relay = s.relay :=
  by rw [endInterval_frame]
@[simp] theorem endInterval_drive : (endInterval s).drive = s.drive :=
  by rw [endInterval_frame]
@[simp] theorem endInterval_view : (endInterval s).view = s.view :=
  by rw [endInterval_frame]
@[simp] theorem endInterval_port : (endInterval s).port = s.port :=
  by rw [endInterval_frame]

theorem acceptCalibration_frame (c0 c1 : Fin 1024) :
    acceptCalibration c0 c1 s =
      { s with
        cresc := (acceptCalibration c0 c1 s).cresc
        flashes := (acceptCalibration c0 c1 s).flashes
        journal := (acceptCalibration c0 c1 s).journal
        store := (acceptCalibration c0 c1 s).store } := by
  unfold acceptCalibration; rw [writeCalibration_frame]

@[simp] theorem acceptCalibration_pending (c0 c1 : Fin 1024) : (acceptCalibration c0 c1 s).pending = s.pending :=
  by rw [acceptCalibration_frame]
@[simp] theorem acceptCalibration_pins (c0 c1 : Fin 1024) : (acceptCalibration c0 c1 s).pins = s.pins :=
  by rw [acceptCalibration_frame]
@[simp] theorem acceptCalibration_memory (c0 c1 : Fin 1024) : (acceptCalibration c0 c1 s).memory = s.memory :=
  by rw [acceptCalibration_frame]
@[simp] theorem acceptCalibration_params (c0 c1 : Fin 1024) : (acceptCalibration c0 c1 s).params = s.params :=
  by rw [acceptCalibration_frame]
@[simp] theorem acceptCalibration_channels (c0 c1 : Fin 1024) : (acceptCalibration c0 c1 s).channels = s.channels :=
  by rw [acceptCalibration_frame]
@[simp] theorem acceptCalibration_relay (c0 c1 : Fin 1024) : (acceptCalibration c0 c1 s).relay = s.relay :=
  by rw [acceptCalibration_frame]
@[simp] theorem acceptCalibration_ops (c0 c1 : Fin 1024) : (acceptCalibration c0 c1 s).ops = s.ops :=
  by rw [acceptCalibration_frame]
@[simp] theorem acceptCalibration_drive (c0 c1 : Fin 1024) : (acceptCalibration c0 c1 s).drive = s.drive :=
  by rw [acceptCalibration_frame]
@[simp] theorem acceptCalibration_link (c0 c1 : Fin 1024) : (acceptCalibration c0 c1 s).link = s.link :=
  by rw [acceptCalibration_frame]
@[simp] theorem acceptCalibration_view (c0 c1 : Fin 1024) : (acceptCalibration c0 c1 s).view = s.view :=
  by rw [acceptCalibration_frame]
@[simp] theorem acceptCalibration_port (c0 c1 : Fin 1024) : (acceptCalibration c0 c1 s).port = s.port :=
  by rw [acceptCalibration_frame]

theorem calibrationPress_frame :
    calibrationPress s =
      { s with
        cresc := (calibrationPress s).cresc
        flashes := (calibrationPress s).flashes
        journal := (calibrationPress s).journal
        ops := (calibrationPress s).ops
        store := (calibrationPress s).store } := by
  unfold calibrationPress; split
  · rfl
  · rfl
  · split
    · rw [acceptCalibration_frame]
    · rfl

@[simp] theorem calibrationPress_pending : (calibrationPress s).pending = s.pending :=
  by rw [calibrationPress_frame]
@[simp] theorem calibrationPress_pins : (calibrationPress s).pins = s.pins :=
  by rw [calibrationPress_frame]
@[simp] theorem calibrationPress_memory : (calibrationPress s).memory = s.memory :=
  by rw [calibrationPress_frame]
@[simp] theorem calibrationPress_params : (calibrationPress s).params = s.params :=
  by rw [calibrationPress_frame]
@[simp] theorem calibrationPress_channels : (calibrationPress s).channels = s.channels :=
  by rw [calibrationPress_frame]
@[simp] theorem calibrationPress_relay : (calibrationPress s).relay = s.relay :=
  by rw [calibrationPress_frame]
@[simp] theorem calibrationPress_drive : (calibrationPress s).drive = s.drive :=
  by rw [calibrationPress_frame]
@[simp] theorem calibrationPress_link : (calibrationPress s).link = s.link :=
  by rw [calibrationPress_frame]
@[simp] theorem calibrationPress_view : (calibrationPress s).view = s.view :=
  by rw [calibrationPress_frame]
@[simp] theorem calibrationPress_port : (calibrationPress s).port = s.port :=
  by rw [calibrationPress_frame]

theorem selectProgram_frame (k : Fin 4) :
    selectProgram k s =
      { s with
        cresc := (selectProgram k s).cresc
        link := (selectProgram k s).link
        journal := (selectProgram k s).journal
        ops := (selectProgram k s).ops
        store := (selectProgram k s).store } := by
  unfold selectProgram; split
  · rw [originationCheck_frame]
  · rfl

@[simp] theorem selectProgram_pending (k : Fin 4) : (selectProgram k s).pending = s.pending :=
  by rw [selectProgram_frame]
@[simp] theorem selectProgram_pins (k : Fin 4) : (selectProgram k s).pins = s.pins :=
  by rw [selectProgram_frame]
@[simp] theorem selectProgram_memory (k : Fin 4) : (selectProgram k s).memory = s.memory :=
  by rw [selectProgram_frame]
@[simp] theorem selectProgram_params (k : Fin 4) : (selectProgram k s).params = s.params :=
  by rw [selectProgram_frame]
@[simp] theorem selectProgram_channels (k : Fin 4) : (selectProgram k s).channels = s.channels :=
  by rw [selectProgram_frame]
@[simp] theorem selectProgram_relay (k : Fin 4) : (selectProgram k s).relay = s.relay :=
  by rw [selectProgram_frame]
@[simp] theorem selectProgram_drive (k : Fin 4) : (selectProgram k s).drive = s.drive :=
  by rw [selectProgram_frame]
@[simp] theorem selectProgram_view (k : Fin 4) : (selectProgram k s).view = s.view :=
  by rw [selectProgram_frame]
@[simp] theorem selectProgram_port (k : Fin 4) : (selectProgram k s).port = s.port :=
  by rw [selectProgram_frame]

theorem actStep_frame (function : Byte) (st : SeqStep) :
    actStep function st s =
      { s with
        pistons := (actStep function st s).pistons
        flashes := (actStep function st s).flashes
        link := (actStep function st s).link
        journal := (actStep function st s).journal
        ops := (actStep function st s).ops
        store := (actStep function st s).store } := by
  unfold actStep sequenceEnd; dsimp only
  split
  · rw [handOver_frame]
  · rfl
  · split <;> rfl

@[simp] theorem actStep_pending (function : Byte) (st : SeqStep) : (actStep function st s).pending = s.pending :=
  by rw [actStep_frame]
@[simp] theorem actStep_pins (function : Byte) (st : SeqStep) : (actStep function st s).pins = s.pins :=
  by rw [actStep_frame]
@[simp] theorem actStep_memory (function : Byte) (st : SeqStep) : (actStep function st s).memory = s.memory :=
  by rw [actStep_frame]
@[simp] theorem actStep_params (function : Byte) (st : SeqStep) : (actStep function st s).params = s.params :=
  by rw [actStep_frame]
@[simp] theorem actStep_channels (function : Byte) (st : SeqStep) : (actStep function st s).channels = s.channels :=
  by rw [actStep_frame]
@[simp] theorem actStep_relay (function : Byte) (st : SeqStep) : (actStep function st s).relay = s.relay :=
  by rw [actStep_frame]
@[simp] theorem actStep_drive (function : Byte) (st : SeqStep) : (actStep function st s).drive = s.drive :=
  by rw [actStep_frame]
@[simp] theorem actStep_view (function : Byte) (st : SeqStep) : (actStep function st s).view = s.view :=
  by rw [actStep_frame]
@[simp] theorem actStep_port (function : Byte) (st : SeqStep) : (actStep function st s).port = s.port :=
  by rw [actStep_frame]

theorem pressAct_frame (fn : PistonFn) :
    pressAct fn s =
      { s with
        pistons := (pressAct fn s).pistons
        flashes := (pressAct fn s).flashes
        cresc := (pressAct fn s).cresc
        link := (pressAct fn s).link
        journal := (pressAct fn s).journal
        ops := (pressAct fn s).ops
        store := (pressAct fn s).store } := by
  unfold pressAct pressRecall pressTutti pressLevelUp pressLevelDown pressLock pressProgram pressCalibrate
  repeat' split
  all_goals first | rfl | rw [handOver_frame] | rw [actStep_frame] | rw [setLock_frame] | rw [selectProgram_frame] | rw [calibrationPress_frame]

@[simp] theorem pressAct_pending (fn : PistonFn) : (pressAct fn s).pending = s.pending :=
  by rw [pressAct_frame]
@[simp] theorem pressAct_pins (fn : PistonFn) : (pressAct fn s).pins = s.pins :=
  by rw [pressAct_frame]
@[simp] theorem pressAct_memory (fn : PistonFn) : (pressAct fn s).memory = s.memory :=
  by rw [pressAct_frame]
@[simp] theorem pressAct_params (fn : PistonFn) : (pressAct fn s).params = s.params :=
  by rw [pressAct_frame]
@[simp] theorem pressAct_channels (fn : PistonFn) : (pressAct fn s).channels = s.channels :=
  by rw [pressAct_frame]
@[simp] theorem pressAct_relay (fn : PistonFn) : (pressAct fn s).relay = s.relay :=
  by rw [pressAct_frame]
@[simp] theorem pressAct_drive (fn : PistonFn) : (pressAct fn s).drive = s.drive :=
  by rw [pressAct_frame]
@[simp] theorem pressAct_view (fn : PistonFn) : (pressAct fn s).view = s.view :=
  by rw [pressAct_frame]
@[simp] theorem pressAct_port (fn : PistonFn) : (pressAct fn s).port = s.port :=
  by rw [pressAct_frame]

theorem countAttempt_frame (cause : AttemptCause) :
    countAttempt cause s =
      { s with
        link := (countAttempt cause s).link
        journal := (countAttempt cause s).journal
        ops := (countAttempt cause s).ops
        store := (countAttempt cause s).store } := by
  unfold countAttempt; split
  · rfl
  · split <;> rfl

@[simp] theorem countAttempt_pending (cause : AttemptCause) : (countAttempt cause s).pending = s.pending :=
  by rw [countAttempt_frame]
@[simp] theorem countAttempt_pins (cause : AttemptCause) : (countAttempt cause s).pins = s.pins :=
  by rw [countAttempt_frame]
@[simp] theorem countAttempt_memory (cause : AttemptCause) : (countAttempt cause s).memory = s.memory :=
  by rw [countAttempt_frame]
@[simp] theorem countAttempt_params (cause : AttemptCause) : (countAttempt cause s).params = s.params :=
  by rw [countAttempt_frame]
@[simp] theorem countAttempt_channels (cause : AttemptCause) : (countAttempt cause s).channels = s.channels :=
  by rw [countAttempt_frame]
@[simp] theorem countAttempt_relay (cause : AttemptCause) : (countAttempt cause s).relay = s.relay :=
  by rw [countAttempt_frame]
@[simp] theorem countAttempt_drive (cause : AttemptCause) : (countAttempt cause s).drive = s.drive :=
  by rw [countAttempt_frame]
@[simp] theorem countAttempt_view (cause : AttemptCause) : (countAttempt cause s).view = s.view :=
  by rw [countAttempt_frame]
@[simp] theorem countAttempt_port (cause : AttemptCause) : (countAttempt cause s).port = s.port :=
  by rw [countAttempt_frame]

theorem frameWhole_frame (f : WireFrame) (mark : Mark) (ok : Bool) :
    frameWhole f mark ok s =
      { s with
        link := (frameWhole f mark ok s).link } := rfl

@[simp] theorem frameWhole_pending (f : WireFrame) (mark : Mark) (ok : Bool) : (frameWhole f mark ok s).pending = s.pending :=
  by rw [frameWhole_frame]
@[simp] theorem frameWhole_pins (f : WireFrame) (mark : Mark) (ok : Bool) : (frameWhole f mark ok s).pins = s.pins :=
  by rw [frameWhole_frame]
@[simp] theorem frameWhole_memory (f : WireFrame) (mark : Mark) (ok : Bool) : (frameWhole f mark ok s).memory = s.memory :=
  by rw [frameWhole_frame]
@[simp] theorem frameWhole_params (f : WireFrame) (mark : Mark) (ok : Bool) : (frameWhole f mark ok s).params = s.params :=
  by rw [frameWhole_frame]
@[simp] theorem frameWhole_channels (f : WireFrame) (mark : Mark) (ok : Bool) : (frameWhole f mark ok s).channels = s.channels :=
  by rw [frameWhole_frame]
@[simp] theorem frameWhole_relay (f : WireFrame) (mark : Mark) (ok : Bool) : (frameWhole f mark ok s).relay = s.relay :=
  by rw [frameWhole_frame]
@[simp] theorem frameWhole_ops (f : WireFrame) (mark : Mark) (ok : Bool) : (frameWhole f mark ok s).ops = s.ops :=
  by rw [frameWhole_frame]
@[simp] theorem frameWhole_drive (f : WireFrame) (mark : Mark) (ok : Bool) : (frameWhole f mark ok s).drive = s.drive :=
  by rw [frameWhole_frame]
@[simp] theorem frameWhole_store (f : WireFrame) (mark : Mark) (ok : Bool) : (frameWhole f mark ok s).store = s.store :=
  by rw [frameWhole_frame]
@[simp] theorem frameWhole_view (f : WireFrame) (mark : Mark) (ok : Bool) : (frameWhole f mark ok s).view = s.view :=
  by rw [frameWhole_frame]
@[simp] theorem frameWhole_journal (f : WireFrame) (mark : Mark) (ok : Bool) : (frameWhole f mark ok s).journal = s.journal :=
  by rw [frameWhole_frame]
@[simp] theorem frameWhole_port (f : WireFrame) (mark : Mark) (ok : Bool) : (frameWhole f mark ok s).port = s.port :=
  by rw [frameWhole_frame]

theorem takeStall_frame (header : Option Byte) :
    takeStall header s =
      { s with
        link := (takeStall header s).link
        journal := (takeStall header s).journal
        ops := (takeStall header s).ops
        store := (takeStall header s).store } := by
  unfold takeStall reportStall; dsimp only
  split
  · show writeRecord _ (countAttempt _ _) = _
    rw [countAttempt_frame]; rfl
  · rfl

@[simp] theorem takeStall_pending (header : Option Byte) : (takeStall header s).pending = s.pending :=
  by rw [takeStall_frame]
@[simp] theorem takeStall_pins (header : Option Byte) : (takeStall header s).pins = s.pins :=
  by rw [takeStall_frame]
@[simp] theorem takeStall_memory (header : Option Byte) : (takeStall header s).memory = s.memory :=
  by rw [takeStall_frame]
@[simp] theorem takeStall_params (header : Option Byte) : (takeStall header s).params = s.params :=
  by rw [takeStall_frame]
@[simp] theorem takeStall_channels (header : Option Byte) : (takeStall header s).channels = s.channels :=
  by rw [takeStall_frame]
@[simp] theorem takeStall_relay (header : Option Byte) : (takeStall header s).relay = s.relay :=
  by rw [takeStall_frame]
@[simp] theorem takeStall_drive (header : Option Byte) : (takeStall header s).drive = s.drive :=
  by rw [takeStall_frame]
@[simp] theorem takeStall_view (header : Option Byte) : (takeStall header s).view = s.view :=
  by rw [takeStall_frame]
@[simp] theorem takeStall_port (header : Option Byte) : (takeStall header s).port = s.port :=
  by rw [takeStall_frame]

theorem hear_frame (mark : Mark) (origin : Station) (m : Msg) :
    hear mark origin m s =
      { s with
        view := (hear mark origin m s).view } := rfl

@[simp] theorem hear_pending (mark : Mark) (origin : Station) (m : Msg) : (hear mark origin m s).pending = s.pending :=
  by rw [hear_frame]
@[simp] theorem hear_pins (mark : Mark) (origin : Station) (m : Msg) : (hear mark origin m s).pins = s.pins :=
  by rw [hear_frame]
@[simp] theorem hear_memory (mark : Mark) (origin : Station) (m : Msg) : (hear mark origin m s).memory = s.memory :=
  by rw [hear_frame]
@[simp] theorem hear_params (mark : Mark) (origin : Station) (m : Msg) : (hear mark origin m s).params = s.params :=
  by rw [hear_frame]
@[simp] theorem hear_channels (mark : Mark) (origin : Station) (m : Msg) : (hear mark origin m s).channels = s.channels :=
  by rw [hear_frame]
@[simp] theorem hear_relay (mark : Mark) (origin : Station) (m : Msg) : (hear mark origin m s).relay = s.relay :=
  by rw [hear_frame]
@[simp] theorem hear_ops (mark : Mark) (origin : Station) (m : Msg) : (hear mark origin m s).ops = s.ops :=
  by rw [hear_frame]
@[simp] theorem hear_drive (mark : Mark) (origin : Station) (m : Msg) : (hear mark origin m s).drive = s.drive :=
  by rw [hear_frame]
@[simp] theorem hear_store (mark : Mark) (origin : Station) (m : Msg) : (hear mark origin m s).store = s.store :=
  by rw [hear_frame]
@[simp] theorem hear_link (mark : Mark) (origin : Station) (m : Msg) : (hear mark origin m s).link = s.link :=
  by rw [hear_frame]
@[simp] theorem hear_journal (mark : Mark) (origin : Station) (m : Msg) : (hear mark origin m s).journal = s.journal :=
  by rw [hear_frame]
@[simp] theorem hear_port (mark : Mark) (origin : Station) (m : Msg) : (hear mark origin m s).port = s.port :=
  by rw [hear_frame]

theorem judgeReady_frame :
    judgeReady s =
      { s with
        view := (judgeReady s).view } := rfl

@[simp] theorem judgeReady_pending : (judgeReady s).pending = s.pending :=
  by rw [judgeReady_frame]
@[simp] theorem judgeReady_pins : (judgeReady s).pins = s.pins :=
  by rw [judgeReady_frame]
@[simp] theorem judgeReady_memory : (judgeReady s).memory = s.memory :=
  by rw [judgeReady_frame]
@[simp] theorem judgeReady_params : (judgeReady s).params = s.params :=
  by rw [judgeReady_frame]
@[simp] theorem judgeReady_channels : (judgeReady s).channels = s.channels :=
  by rw [judgeReady_frame]
@[simp] theorem judgeReady_relay : (judgeReady s).relay = s.relay :=
  by rw [judgeReady_frame]
@[simp] theorem judgeReady_ops : (judgeReady s).ops = s.ops :=
  by rw [judgeReady_frame]
@[simp] theorem judgeReady_drive : (judgeReady s).drive = s.drive :=
  by rw [judgeReady_frame]
@[simp] theorem judgeReady_store : (judgeReady s).store = s.store :=
  by rw [judgeReady_frame]
@[simp] theorem judgeReady_link : (judgeReady s).link = s.link :=
  by rw [judgeReady_frame]
@[simp] theorem judgeReady_journal : (judgeReady s).journal = s.journal :=
  by rw [judgeReady_frame]
@[simp] theorem judgeReady_port : (judgeReady s).port = s.port :=
  by rw [judgeReady_frame]

theorem recomposeIf_frame (changed : Bool) :
    recomposeIf changed s =
      { s with
        relay := (recomposeIf changed s).relay } := by
  unfold recomposeIf; split <;> rfl

@[simp] theorem recomposeIf_pending (changed : Bool) : (recomposeIf changed s).pending = s.pending :=
  by rw [recomposeIf_frame]
@[simp] theorem recomposeIf_pins (changed : Bool) : (recomposeIf changed s).pins = s.pins :=
  by rw [recomposeIf_frame]
@[simp] theorem recomposeIf_memory (changed : Bool) : (recomposeIf changed s).memory = s.memory :=
  by rw [recomposeIf_frame]
@[simp] theorem recomposeIf_params (changed : Bool) : (recomposeIf changed s).params = s.params :=
  by rw [recomposeIf_frame]
@[simp] theorem recomposeIf_channels (changed : Bool) : (recomposeIf changed s).channels = s.channels :=
  by rw [recomposeIf_frame]
@[simp] theorem recomposeIf_ops (changed : Bool) : (recomposeIf changed s).ops = s.ops :=
  by rw [recomposeIf_frame]
@[simp] theorem recomposeIf_drive (changed : Bool) : (recomposeIf changed s).drive = s.drive :=
  by rw [recomposeIf_frame]
@[simp] theorem recomposeIf_store (changed : Bool) : (recomposeIf changed s).store = s.store :=
  by rw [recomposeIf_frame]
@[simp] theorem recomposeIf_link (changed : Bool) : (recomposeIf changed s).link = s.link :=
  by rw [recomposeIf_frame]
@[simp] theorem recomposeIf_view (changed : Bool) : (recomposeIf changed s).view = s.view :=
  by rw [recomposeIf_frame]
@[simp] theorem recomposeIf_journal (changed : Bool) : (recomposeIf changed s).journal = s.journal :=
  by rw [recomposeIf_frame]
@[simp] theorem recomposeIf_port (changed : Bool) : (recomposeIf changed s).port = s.port :=
  by rw [recomposeIf_frame]

theorem toSequencer_frame (mark : Mark) (header : Byte) (m : Msg) :
    toSequencer mark header m s =
      { s with
        ops := (toSequencer mark header m s).ops
        journal := (toSequencer mark header m s).journal
        store := (toSequencer mark header m s).store } := by
  unfold toSequencer; split
  · rw [considerFrame_frame]
  · rfl

@[simp] theorem toSequencer_pending (mark : Mark) (header : Byte) (m : Msg) : (toSequencer mark header m s).pending = s.pending :=
  by rw [toSequencer_frame]
@[simp] theorem toSequencer_pins (mark : Mark) (header : Byte) (m : Msg) : (toSequencer mark header m s).pins = s.pins :=
  by rw [toSequencer_frame]
@[simp] theorem toSequencer_memory (mark : Mark) (header : Byte) (m : Msg) : (toSequencer mark header m s).memory = s.memory :=
  by rw [toSequencer_frame]
@[simp] theorem toSequencer_params (mark : Mark) (header : Byte) (m : Msg) : (toSequencer mark header m s).params = s.params :=
  by rw [toSequencer_frame]
@[simp] theorem toSequencer_channels (mark : Mark) (header : Byte) (m : Msg) : (toSequencer mark header m s).channels = s.channels :=
  by rw [toSequencer_frame]
@[simp] theorem toSequencer_relay (mark : Mark) (header : Byte) (m : Msg) : (toSequencer mark header m s).relay = s.relay :=
  by rw [toSequencer_frame]
@[simp] theorem toSequencer_drive (mark : Mark) (header : Byte) (m : Msg) : (toSequencer mark header m s).drive = s.drive :=
  by rw [toSequencer_frame]
@[simp] theorem toSequencer_link (mark : Mark) (header : Byte) (m : Msg) : (toSequencer mark header m s).link = s.link :=
  by rw [toSequencer_frame]
@[simp] theorem toSequencer_view (mark : Mark) (header : Byte) (m : Msg) : (toSequencer mark header m s).view = s.view :=
  by rw [toSequencer_frame]
@[simp] theorem toSequencer_port (mark : Mark) (header : Byte) (m : Msg) : (toSequencer mark header m s).port = s.port :=
  by rw [toSequencer_frame]

theorem effect_frame (mark : Mark) (header : Byte) (m : Msg) :
    effect mark header m s =
      { s with
        view := (effect mark header m s).view
        relay := (effect mark header m s).relay
        cresc := (effect mark header m s).cresc
        ops := (effect mark header m s).ops
        journal := (effect mark header m s).journal
        store := (effect mark header m s).store } := by
  unfold effect effectCancel effectRecall effectCapture effectHandset effectToggle effectTutti effectStage
    effectSetter effectLevel effectAnnounce
  dsimp only
  repeat' split
  all_goals first | rfl | (rw [toSequencer_frame]; done) | (rw [toSequencer_frame]; rfl) | (rw [recomposeIf_frame]; rfl)

@[simp] theorem effect_pending (mark : Mark) (header : Byte) (m : Msg) : (effect mark header m s).pending = s.pending :=
  by rw [effect_frame]
@[simp] theorem effect_pins (mark : Mark) (header : Byte) (m : Msg) : (effect mark header m s).pins = s.pins :=
  by rw [effect_frame]
@[simp] theorem effect_memory (mark : Mark) (header : Byte) (m : Msg) : (effect mark header m s).memory = s.memory :=
  by rw [effect_frame]
@[simp] theorem effect_params (mark : Mark) (header : Byte) (m : Msg) : (effect mark header m s).params = s.params :=
  by rw [effect_frame]
@[simp] theorem effect_channels (mark : Mark) (header : Byte) (m : Msg) : (effect mark header m s).channels = s.channels :=
  by rw [effect_frame]
@[simp] theorem effect_drive (mark : Mark) (header : Byte) (m : Msg) : (effect mark header m s).drive = s.drive :=
  by rw [effect_frame]
@[simp] theorem effect_link (mark : Mark) (header : Byte) (m : Msg) : (effect mark header m s).link = s.link :=
  by rw [effect_frame]
@[simp] theorem effect_port (mark : Mark) (header : Byte) (m : Msg) : (effect mark header m s).port = s.port :=
  by rw [effect_frame]

theorem newStationActions_frame :
    newStationActions s =
      { s with
        cresc := (newStationActions s).cresc
        link := (newStationActions s).link
        journal := (newStationActions s).journal
        ops := (newStationActions s).ops
        store := (newStationActions s).store } := by
  unfold newStationActions; dsimp only
  split <;> split
  · rw [handOver_frame, sendStage_frame, handOver_frame]
  · rw [handOver_frame, handOver_frame]
  · rw [sendStage_frame, handOver_frame]
  · rw [handOver_frame]

@[simp] theorem newStationActions_pending : (newStationActions s).pending = s.pending :=
  by rw [newStationActions_frame]
@[simp] theorem newStationActions_pins : (newStationActions s).pins = s.pins :=
  by rw [newStationActions_frame]
@[simp] theorem newStationActions_memory : (newStationActions s).memory = s.memory :=
  by rw [newStationActions_frame]
@[simp] theorem newStationActions_params : (newStationActions s).params = s.params :=
  by rw [newStationActions_frame]
@[simp] theorem newStationActions_channels : (newStationActions s).channels = s.channels :=
  by rw [newStationActions_frame]
@[simp] theorem newStationActions_relay : (newStationActions s).relay = s.relay :=
  by rw [newStationActions_frame]
@[simp] theorem newStationActions_drive : (newStationActions s).drive = s.drive :=
  by rw [newStationActions_frame]
@[simp] theorem newStationActions_view : (newStationActions s).view = s.view :=
  by rw [newStationActions_frame]
@[simp] theorem newStationActions_port : (newStationActions s).port = s.port :=
  by rw [newStationActions_frame]

theorem greet_frame (isNew : Bool) :
    greet isNew s =
      { s with
        cresc := (greet isNew s).cresc
        link := (greet isNew s).link
        journal := (greet isNew s).journal
        ops := (greet isNew s).ops
        store := (greet isNew s).store } := by
  unfold greet; split
  · rw [newStationActions_frame]
  · rfl

@[simp] theorem greet_pending (isNew : Bool) : (greet isNew s).pending = s.pending :=
  by rw [greet_frame]
@[simp] theorem greet_pins (isNew : Bool) : (greet isNew s).pins = s.pins :=
  by rw [greet_frame]
@[simp] theorem greet_memory (isNew : Bool) : (greet isNew s).memory = s.memory :=
  by rw [greet_frame]
@[simp] theorem greet_params (isNew : Bool) : (greet isNew s).params = s.params :=
  by rw [greet_frame]
@[simp] theorem greet_channels (isNew : Bool) : (greet isNew s).channels = s.channels :=
  by rw [greet_frame]
@[simp] theorem greet_relay (isNew : Bool) : (greet isNew s).relay = s.relay :=
  by rw [greet_frame]
@[simp] theorem greet_drive (isNew : Bool) : (greet isNew s).drive = s.drive :=
  by rw [greet_frame]
@[simp] theorem greet_view (isNew : Bool) : (greet isNew s).view = s.view :=
  by rw [greet_frame]
@[simp] theorem greet_port (isNew : Bool) : (greet isNew s).port = s.port :=
  by rw [greet_frame]

theorem enterListen_frame :
    enterListen s =
      { s with
        view := (enterListen s).view
        link := (enterListen s).link
        pistons := (enterListen s).pistons
        flashes := (enterListen s).flashes
        cresc := (enterListen s).cresc } := rfl

@[simp] theorem enterListen_pending : (enterListen s).pending = s.pending :=
  by rw [enterListen_frame]
@[simp] theorem enterListen_pins : (enterListen s).pins = s.pins :=
  by rw [enterListen_frame]
@[simp] theorem enterListen_memory : (enterListen s).memory = s.memory :=
  by rw [enterListen_frame]
@[simp] theorem enterListen_params : (enterListen s).params = s.params :=
  by rw [enterListen_frame]
@[simp] theorem enterListen_channels : (enterListen s).channels = s.channels :=
  by rw [enterListen_frame]
@[simp] theorem enterListen_relay : (enterListen s).relay = s.relay :=
  by rw [enterListen_frame]
@[simp] theorem enterListen_ops : (enterListen s).ops = s.ops :=
  by rw [enterListen_frame]
@[simp] theorem enterListen_drive : (enterListen s).drive = s.drive :=
  by rw [enterListen_frame]
@[simp] theorem enterListen_store : (enterListen s).store = s.store :=
  by rw [enterListen_frame]
@[simp] theorem enterListen_journal : (enterListen s).journal = s.journal :=
  by rw [enterListen_frame]
@[simp] theorem enterListen_port : (enterListen s).port = s.port :=
  by rw [enterListen_frame]

theorem detectDuplicate_frame (header : Byte) :
    detectDuplicate header s =
      { s with
        view := (detectDuplicate header s).view
        link := (detectDuplicate header s).link
        pistons := (detectDuplicate header s).pistons
        flashes := (detectDuplicate header s).flashes
        cresc := (detectDuplicate header s).cresc
        journal := (detectDuplicate header s).journal
        ops := (detectDuplicate header s).ops
        store := (detectDuplicate header s).store } := by
  unfold detectDuplicate; dsimp only
  split <;> rfl

@[simp] theorem detectDuplicate_pending (header : Byte) : (detectDuplicate header s).pending = s.pending :=
  by rw [detectDuplicate_frame]
@[simp] theorem detectDuplicate_pins (header : Byte) : (detectDuplicate header s).pins = s.pins :=
  by rw [detectDuplicate_frame]
@[simp] theorem detectDuplicate_memory (header : Byte) : (detectDuplicate header s).memory = s.memory :=
  by rw [detectDuplicate_frame]
@[simp] theorem detectDuplicate_params (header : Byte) : (detectDuplicate header s).params = s.params :=
  by rw [detectDuplicate_frame]
@[simp] theorem detectDuplicate_channels (header : Byte) : (detectDuplicate header s).channels = s.channels :=
  by rw [detectDuplicate_frame]
@[simp] theorem detectDuplicate_relay (header : Byte) : (detectDuplicate header s).relay = s.relay :=
  by rw [detectDuplicate_frame]
@[simp] theorem detectDuplicate_drive (header : Byte) : (detectDuplicate header s).drive = s.drive :=
  by rw [detectDuplicate_frame]
@[simp] theorem detectDuplicate_port (header : Byte) : (detectDuplicate header s).port = s.port :=
  by rw [detectDuplicate_frame]

theorem checkDuplicate_frame (mark : Mark) (header : Byte) :
    checkDuplicate mark header s =
      { s with
        view := (checkDuplicate mark header s).view
        link := (checkDuplicate mark header s).link
        pistons := (checkDuplicate mark header s).pistons
        flashes := (checkDuplicate mark header s).flashes
        cresc := (checkDuplicate mark header s).cresc
        journal := (checkDuplicate mark header s).journal
        ops := (checkDuplicate mark header s).ops
        store := (checkDuplicate mark header s).store } := by
  unfold checkDuplicate; split
  · rw [detectDuplicate_frame]
  · rfl

@[simp] theorem checkDuplicate_pending (mark : Mark) (header : Byte) : (checkDuplicate mark header s).pending = s.pending :=
  by rw [checkDuplicate_frame]
@[simp] theorem checkDuplicate_pins (mark : Mark) (header : Byte) : (checkDuplicate mark header s).pins = s.pins :=
  by rw [checkDuplicate_frame]
@[simp] theorem checkDuplicate_memory (mark : Mark) (header : Byte) : (checkDuplicate mark header s).memory = s.memory :=
  by rw [checkDuplicate_frame]
@[simp] theorem checkDuplicate_params (mark : Mark) (header : Byte) : (checkDuplicate mark header s).params = s.params :=
  by rw [checkDuplicate_frame]
@[simp] theorem checkDuplicate_channels (mark : Mark) (header : Byte) : (checkDuplicate mark header s).channels = s.channels :=
  by rw [checkDuplicate_frame]
@[simp] theorem checkDuplicate_relay (mark : Mark) (header : Byte) : (checkDuplicate mark header s).relay = s.relay :=
  by rw [checkDuplicate_frame]
@[simp] theorem checkDuplicate_drive (mark : Mark) (header : Byte) : (checkDuplicate mark header s).drive = s.drive :=
  by rw [checkDuplicate_frame]
@[simp] theorem checkDuplicate_port (mark : Mark) (header : Byte) : (checkDuplicate mark header s).port = s.port :=
  by rw [checkDuplicate_frame]

theorem deliver_frame (mark : Mark) (header : Byte) (m : Msg) :
    deliver mark header m s =
      { s with
        view := (deliver mark header m s).view
        relay := (deliver mark header m s).relay
        link := (deliver mark header m s).link
        pistons := (deliver mark header m s).pistons
        flashes := (deliver mark header m s).flashes
        cresc := (deliver mark header m s).cresc
        journal := (deliver mark header m s).journal
        ops := (deliver mark header m s).ops
        store := (deliver mark header m s).store } := by
  have h : ∃ v r l p f c j o st, deliver mark header m s =
      { s with view := v, relay := r, link := l, pistons := p, flashes := f, cresc := c, journal := j,
               ops := o, store := st } := by
    unfold deliver
    rw [checkDuplicate_frame, greet_frame, effect_frame, judgeReady_frame, hear_frame]
    exact ⟨_, _, _, _, _, _, _, _, _, rfl⟩
  obtain ⟨_, _, _, _, _, _, _, _, _, h⟩ := h
  rw [h]

@[simp] theorem deliver_pending (mark : Mark) (header : Byte) (m : Msg) : (deliver mark header m s).pending = s.pending :=
  by rw [deliver_frame]
@[simp] theorem deliver_pins (mark : Mark) (header : Byte) (m : Msg) : (deliver mark header m s).pins = s.pins :=
  by rw [deliver_frame]
@[simp] theorem deliver_memory (mark : Mark) (header : Byte) (m : Msg) : (deliver mark header m s).memory = s.memory :=
  by rw [deliver_frame]
@[simp] theorem deliver_params (mark : Mark) (header : Byte) (m : Msg) : (deliver mark header m s).params = s.params :=
  by rw [deliver_frame]
@[simp] theorem deliver_channels (mark : Mark) (header : Byte) (m : Msg) : (deliver mark header m s).channels = s.channels :=
  by rw [deliver_frame]
@[simp] theorem deliver_drive (mark : Mark) (header : Byte) (m : Msg) : (deliver mark header m s).drive = s.drive :=
  by rw [deliver_frame]
@[simp] theorem deliver_port (mark : Mark) (header : Byte) (m : Msg) : (deliver mark header m s).port = s.port :=
  by rw [deliver_frame]

theorem stopLink_frame (mark : Mark) :
    stopLink mark s =
      { s with
        link := (stopLink mark s).link } := rfl

@[simp] theorem stopLink_pending (mark : Mark) : (stopLink mark s).pending = s.pending :=
  by rw [stopLink_frame]
@[simp] theorem stopLink_pins (mark : Mark) : (stopLink mark s).pins = s.pins :=
  by rw [stopLink_frame]
@[simp] theorem stopLink_memory (mark : Mark) : (stopLink mark s).memory = s.memory :=
  by rw [stopLink_frame]
@[simp] theorem stopLink_params (mark : Mark) : (stopLink mark s).params = s.params :=
  by rw [stopLink_frame]
@[simp] theorem stopLink_channels (mark : Mark) : (stopLink mark s).channels = s.channels :=
  by rw [stopLink_frame]
@[simp] theorem stopLink_relay (mark : Mark) : (stopLink mark s).relay = s.relay :=
  by rw [stopLink_frame]
@[simp] theorem stopLink_ops (mark : Mark) : (stopLink mark s).ops = s.ops :=
  by rw [stopLink_frame]
@[simp] theorem stopLink_drive (mark : Mark) : (stopLink mark s).drive = s.drive :=
  by rw [stopLink_frame]
@[simp] theorem stopLink_store (mark : Mark) : (stopLink mark s).store = s.store :=
  by rw [stopLink_frame]
@[simp] theorem stopLink_view (mark : Mark) : (stopLink mark s).view = s.view :=
  by rw [stopLink_frame]
@[simp] theorem stopLink_journal (mark : Mark) : (stopLink mark s).journal = s.journal :=
  by rw [stopLink_frame]
@[simp] theorem stopLink_port (mark : Mark) : (stopLink mark s).port = s.port :=
  by rw [stopLink_frame]

theorem acceptFrame_frame (kind : Nat) :
    acceptFrame kind s =
      { s with
        view := (acceptFrame kind s).view
        relay := (acceptFrame kind s).relay
        link := (acceptFrame kind s).link
        pistons := (acceptFrame kind s).pistons
        flashes := (acceptFrame kind s).flashes
        cresc := (acceptFrame kind s).cresc
        journal := (acceptFrame kind s).journal
        ops := (acceptFrame kind s).ops
        store := (acceptFrame kind s).store } := by
  unfold acceptFrame; split
  · rw [deliver_frame]; rfl
  · rfl

@[simp] theorem acceptFrame_pending (kind : Nat) : (acceptFrame kind s).pending = s.pending :=
  by rw [acceptFrame_frame]
@[simp] theorem acceptFrame_pins (kind : Nat) : (acceptFrame kind s).pins = s.pins :=
  by rw [acceptFrame_frame]
@[simp] theorem acceptFrame_memory (kind : Nat) : (acceptFrame kind s).memory = s.memory :=
  by rw [acceptFrame_frame]
@[simp] theorem acceptFrame_params (kind : Nat) : (acceptFrame kind s).params = s.params :=
  by rw [acceptFrame_frame]
@[simp] theorem acceptFrame_channels (kind : Nat) : (acceptFrame kind s).channels = s.channels :=
  by rw [acceptFrame_frame]
@[simp] theorem acceptFrame_drive (kind : Nat) : (acceptFrame kind s).drive = s.drive :=
  by rw [acceptFrame_frame]
@[simp] theorem acceptFrame_port (kind : Nat) : (acceptFrame kind s).port = s.port :=
  by rw [acceptFrame_frame]

theorem takeRead_frame (req : FetchReq) :
    takeRead req s =
      { s with
        store := (takeRead req s).store
        port := (takeRead req s).port } := by
  unfold takeRead; split
  · rfl
  · rw [requestFetch_frame]

@[simp] theorem takeRead_pending (req : FetchReq) : (takeRead req s).pending = s.pending :=
  by rw [takeRead_frame]
@[simp] theorem takeRead_pins (req : FetchReq) : (takeRead req s).pins = s.pins :=
  by rw [takeRead_frame]
@[simp] theorem takeRead_memory (req : FetchReq) : (takeRead req s).memory = s.memory :=
  by rw [takeRead_frame]
@[simp] theorem takeRead_params (req : FetchReq) : (takeRead req s).params = s.params :=
  by rw [takeRead_frame]
@[simp] theorem takeRead_channels (req : FetchReq) : (takeRead req s).channels = s.channels :=
  by rw [takeRead_frame]
@[simp] theorem takeRead_relay (req : FetchReq) : (takeRead req s).relay = s.relay :=
  by rw [takeRead_frame]
@[simp] theorem takeRead_ops (req : FetchReq) : (takeRead req s).ops = s.ops :=
  by rw [takeRead_frame]
@[simp] theorem takeRead_drive (req : FetchReq) : (takeRead req s).drive = s.drive :=
  by rw [takeRead_frame]
@[simp] theorem takeRead_link (req : FetchReq) : (takeRead req s).link = s.link :=
  by rw [takeRead_frame]
@[simp] theorem takeRead_view (req : FetchReq) : (takeRead req s).view = s.view :=
  by rw [takeRead_frame]
@[simp] theorem takeRead_journal (req : FetchReq) : (takeRead req s).journal = s.journal :=
  by rw [takeRead_frame]

theorem takeLock_frame (level : Fin 256) (lock : Bool) :
    takeLock level lock s =
      { s with
        store := (takeLock level lock s).store
        journal := (takeLock level lock s).journal
        port := (takeLock level lock s).port } := by
  unfold takeLock; split
  · show beginReply _ _ (setLock _ _ _) = _
    rw [setLock_frame]; rfl
  · rfl

@[simp] theorem takeLock_pending (level : Fin 256) (lock : Bool) : (takeLock level lock s).pending = s.pending :=
  by rw [takeLock_frame]
@[simp] theorem takeLock_pins (level : Fin 256) (lock : Bool) : (takeLock level lock s).pins = s.pins :=
  by rw [takeLock_frame]
@[simp] theorem takeLock_memory (level : Fin 256) (lock : Bool) : (takeLock level lock s).memory = s.memory :=
  by rw [takeLock_frame]
@[simp] theorem takeLock_params (level : Fin 256) (lock : Bool) : (takeLock level lock s).params = s.params :=
  by rw [takeLock_frame]
@[simp] theorem takeLock_channels (level : Fin 256) (lock : Bool) : (takeLock level lock s).channels = s.channels :=
  by rw [takeLock_frame]
@[simp] theorem takeLock_relay (level : Fin 256) (lock : Bool) : (takeLock level lock s).relay = s.relay :=
  by rw [takeLock_frame]
@[simp] theorem takeLock_ops (level : Fin 256) (lock : Bool) : (takeLock level lock s).ops = s.ops :=
  by rw [takeLock_frame]
@[simp] theorem takeLock_drive (level : Fin 256) (lock : Bool) : (takeLock level lock s).drive = s.drive :=
  by rw [takeLock_frame]
@[simp] theorem takeLock_link (level : Fin 256) (lock : Bool) : (takeLock level lock s).link = s.link :=
  by rw [takeLock_frame]
@[simp] theorem takeLock_view (level : Fin 256) (lock : Bool) : (takeLock level lock s).view = s.view :=
  by rw [takeLock_frame]

end Sys2Proof.Machine
end

