-- ==== Sys2Proof/Laws/Journal.lean ====
section
/-! SUPPORT. What a write to the journal does, said once: the record that an update names, every other record, and
what stands beside the records. -/

namespace Sys2Proof.Machine

/-- A push writes position *next* (R201, R203). -/
theorem Journal.push_at (j : Journal) (r : Record) : (j.push r).records[j.next] = some r := by
  show (j.records.set j.next.val _)[j.next.val] = _
  rw [Vector.getElem_set_self]

/-- A push leaves every other position (R201). -/
theorem Journal.push_other (j : Journal) (r : Record) (p : Fin 32) (h : p ≠ j.next) :
    (j.push r).records[p] = j.records[p] := by
  show (j.records.set j.next.val _)[p.val] = _
  rw [Vector.getElem_set_ne]
  · rfl
  · intro e; exact h (Fin.ext e.symm)

/-- An update changes the records alone (R206). -/
theorem Journal.update_frame (j : Journal) (ref : Option (Fin 32)) (f : Record → Record) :
    j.update ref f = { j with records := (j.update ref f).records } := by
  unfold Journal.update
  split
  · rfl
  · split
    · rfl
    · split <;> rfl

/-- An update of an OPEN record writes it (R206). -/
theorem Journal.update_at (j : Journal) (ref : Option (Fin 32)) (f : Record → Record) (p : Fin 32) (r : Record)
    (hr : ref = some p) (hp : j.records[p] = some r) (ho : r.state = .opened) :
    (j.update ref f).records[p] = some (f r) := by
  subst hr
  unfold Journal.update
  dsimp only
  rw [hp]
  dsimp only
  rw [if_pos ho]
  show (j.records.set p.val _)[p.val] = _
  rw [Vector.getElem_set_self]

/-- An update leaves every record that it does not name (R206). -/
theorem Journal.update_other (j : Journal) (ref : Option (Fin 32)) (f : Record → Record) (p : Fin 32)
    (hr : ref ≠ some p) : (j.update ref f).records[p] = j.records[p] := by
  unfold Journal.update
  split
  · rfl
  · rename_i q
    split
    · rfl
    · split
      · show (j.records.set q.val _)[p.val] = _
        rw [Vector.getElem_set_ne]
        · rfl
        · intro h; exact hr (congrArg some (Fin.ext h))
      · rfl

/-- A closing of an OPEN record (R204). -/
theorem Journal.close_at (j : Journal) (ref : Option (Fin 32)) (st : RecState) (o : Option FaultCode) (p : Fin 32)
    (r : Record) (hr : ref = some p) (hp : j.records[p] = some r) (ho : r.state = .opened) :
    (j.close ref st o).records[p] = some (r.closedAs st o j.timeTag) :=
  j.update_at ref _ p r hr hp ho

/-- A closing leaves every record that it does not name (R204). -/
theorem Journal.close_other (j : Journal) (ref : Option (Fin 32)) (st : RecState) (o : Option FaultCode) (p : Fin 32)
    (hr : ref ≠ some p) : (j.close ref st o).records[p] = j.records[p] :=
  j.update_other ref _ p hr

end Sys2Proof.Machine
end

