-- ==== Sys2Proof/Laws/Memory.lean ====
section
/-! SUPPORT. The store memory: every operation keeps the canonical form, a byte reads as last written, and a write
leaves every other address alone. -/

namespace Sys2Proof.Machine

theorem Memory.wf_cons (k : Nat) (b : Byte) (m : Memory) :
    Memory.wf ((k, b) :: m) = true ↔ b ≠ 0xFF ∧ (∀ c ∈ m, k < c.1) ∧ Memory.wf m = true := by
  simp [Memory.wf, and_assoc]

/-- Addresses listed after a write: those listed before and the written one. -/
theorem memWrite_mem (m : Memory) (a : Nat) (b : Byte) (c : Host.Cell) (h : c ∈ memWrite m a b) :
    c ∈ m ∨ c = (a, b) := by
  induction m with
  | nil =>
    unfold memWrite at h
    split at h
    · cases h
    · exact .inr (List.mem_singleton.mp h)
  | cons p m ih =>
    obtain ⟨k, x⟩ := p
    unfold memWrite at h
    split at h
    · split at h
      · exact .inl h
      · exact (List.mem_cons.mp h).elim .inr .inl
    · split at h
      · split at h
        · exact .inl (List.mem_cons_of_mem _ h)
        · exact (List.mem_cons.mp h).elim .inr (fun q => .inl (List.mem_cons_of_mem _ q))
      · rcases List.mem_cons.mp h with rfl | q
        · exact .inl (List.mem_cons_self ..)
        · exact (ih q).imp_left (List.mem_cons_of_mem _)

theorem memWrite_wf (m : Memory) (a : Nat) (b : Byte) (h : Memory.wf m = true) :
    Memory.wf (memWrite m a b) = true := by
  induction m with
  | nil =>
    unfold memWrite
    split
    · rfl
    · rename_i hb
      exact (Memory.wf_cons a b []).mpr ⟨hb, by simp, rfl⟩
  | cons p m ih =>
    obtain ⟨k, x⟩ := p
    obtain ⟨hx, hk, hm⟩ := (Memory.wf_cons k x m).mp h
    unfold memWrite
    split
    · rename_i ha
      split
      · exact h
      · rename_i hb
        refine (Memory.wf_cons a b _).mpr ⟨hb, fun c hc => ?_, h⟩
        rcases List.mem_cons.mp hc with rfl | q
        · exact ha
        · exact ha.trans (hk c q)
    · rename_i ha
      split
      · rename_i hak
        split
        · exact hm
        · rename_i hb
          exact (Memory.wf_cons a b _).mpr ⟨hb, fun c hc => hak ▸ hk c hc, hm⟩
      · rename_i hak
        refine (Memory.wf_cons k x _).mpr ⟨hx, fun c hc => ?_, ih hm⟩
        rcases memWrite_mem m a b c hc with q | rfl
        · exact hk c q
        · exact lt_of_le_of_ne (not_lt.mp ha) (Ne.symm hak)

theorem memWriteRange_wf (bs : List Byte) (m : Memory) (a : Nat) (h : Memory.wf m = true) :
    Memory.wf (memWriteRange m a bs) = true := by
  induction bs generalizing m a with
  | nil => exact h
  | cons b bs ih => exact ih _ _ (memWrite_wf m a b h)

theorem storeWrite_wf (e : WriteEntry) (s : State) (h : Memory.wf s.memory = true) :
    Memory.wf (storeWrite e s).memory = true := memWriteRange_wf _ _ _ h

theorem tearWrite_wf (e : WriteEntry) (s : State) (h : Memory.wf s.memory = true) :
    Memory.wf (tearWrite e s).memory = true := memWriteRange_wf _ _ _ h

theorem reset_memory_wf : Memory.wf State.reset.memory = true := rfl

/-- An address below every listed one reads as erased. -/
theorem memRead_below (m : Memory) (a : Nat) (h : ∀ c ∈ m, a < c.1) : memRead m a = 0xFF := by
  induction m with
  | nil => rfl
  | cons p m ih =>
    have hp := h p (List.mem_cons_self ..)
    unfold memRead
    rw [if_neg (by omega)]
    exact ih (fun c hc => h c (List.mem_cons_of_mem _ hc))

/-- A written byte reads back. -/
theorem memRead_memWrite_same (m : Memory) (a : Nat) (b : Byte) (h : Memory.wf m = true) :
    memRead (memWrite m a b) a = b := by
  induction m with
  | nil =>
    unfold memWrite
    split
    · rename_i hb; simp [memRead, hb]
    · simp [memRead]
  | cons p m ih =>
    obtain ⟨k, x⟩ := p
    obtain ⟨-, hk, hm⟩ := (Memory.wf_cons k x m).mp h
    unfold memWrite
    split
    · rename_i ha
      split
      · rename_i hb
        rw [hb]
        refine memRead_below _ a (fun c hc => ?_)
        rcases List.mem_cons.mp hc with rfl | q
        · exact ha
        · exact ha.trans (hk c q)
      · simp [memRead]
    · split
      · rename_i hak
        split
        · rename_i hb
          rw [hb]
          exact memRead_below _ a (fun c hc => hak ▸ hk c hc)
        · simp [memRead]
      · rename_i hak
        unfold memRead
        rw [if_neg (Ne.symm hak)]
        exact ih hm

/-- A write leaves every other address alone. -/
theorem memRead_memWrite_other (m : Memory) (a x : Nat) (b : Byte) (h : x ≠ a) :
    memRead (memWrite m a b) x = memRead m x := by
  induction m with
  | nil =>
    unfold memWrite
    split
    · rfl
    · simp [memRead, Ne.symm h]
  | cons p m ih =>
    obtain ⟨k, y⟩ := p
    unfold memWrite
    split
    · split
      · rfl
      · simp [memRead, Ne.symm h]
    · split
      · rename_i hak
        split
        · simp [memRead, ← hak, Ne.symm h]
        · simp [memRead, ← hak, Ne.symm h]
      · simp only [memRead, ih]

/-- A write of several bytes leaves the addresses outside its range alone. -/
theorem memRead_memWriteRange_other (bs : List Byte) (m : Memory) (a x : Nat)
    (h : x < a ∨ a + bs.length ≤ x) : memRead (memWriteRange m a bs) x = memRead m x := by
  induction bs generalizing m a with
  | nil => rfl
  | cons b bs ih =>
    rw [List.length_cons] at h
    rw [memWriteRange, ih _ _ (by omega), memRead_memWrite_other _ _ _ _ (by omega)]

/-- The n-th byte of a written range reads back. -/
theorem memRead_memWriteRange_at (bs : List Byte) (m : Memory) (a n : Nat) (hn : n < bs.length)
    (h : Memory.wf m = true) : memRead (memWriteRange m a bs) (a + n) = bs[n] := by
  induction bs generalizing m a n with
  | nil => cases hn
  | cons b bs ih =>
    cases n with
    | zero =>
      rw [memWriteRange, memRead_memWriteRange_other _ _ _ _ (by omega), Nat.add_zero,
        memRead_memWrite_same _ _ _ h, List.getElem_cons_zero]
    | succ n =>
      have := ih (memWrite m a b) (a + 1) n (Nat.lt_of_succ_lt_succ hn) (memWrite_wf m a b h)
      rw [memWriteRange, List.getElem_cons_succ, ← this]
      congr 1
      omega

/-- Every listed address of a written range is an old one or lies in the range. -/
theorem memWriteRange_mem (bs : List Byte) (m : Memory) (a : Nat) (c : Host.Cell)
    (h : c ∈ memWriteRange m a bs) : c ∈ m ∨ (a ≤ c.1 ∧ c.1 < a + bs.length) := by
  induction bs generalizing m a with
  | nil => exact .inl h
  | cons b bs ih =>
    rw [List.length_cons]
    rcases ih _ _ h with q | q
    · rcases memWrite_mem m a b c q with r | rfl
      · exact .inl r
      · exact .inr ⟨le_refl _, by simp⟩
    · exact .inr ⟨by omega, by omega⟩

theorem tornBytes_length (n : Nat) (xs ys : List Byte) :
    (tornBytes n xs ys).length = min xs.length ys.length := by
  induction xs generalizing n ys with
  | nil => simp [tornBytes]
  | cons x xs ih =>
    cases ys with
    | nil => simp [tornBytes]
    | cons y ys => simp [tornBytes, ih]

theorem memReadRange_length (m : Memory) (a n : Nat) : (memReadRange m a n).length = n := by
  simp [memReadRange]

theorem memReadRange_getElem (m : Memory) (a n i : Nat) (h : i < (memReadRange m a n).length) :
    (memReadRange m a n)[i] = memRead m (a + i) := by
  simp [memReadRange]

/-- A range written to a canonical memory reads back as it was written. -/
theorem memReadRange_memWriteRange (m : Memory) (a : Nat) (bs : List Byte) (h : Memory.wf m = true) :
    memReadRange (memWriteRange m a bs) a bs.length = bs := by
  apply List.ext_getElem
  · exact memReadRange_length _ _ _
  · intro i _ h2
    rw [memReadRange_getElem]
    exact memRead_memWriteRange_at bs m a i h2 h

end Sys2Proof.Machine
end

