-- ==== Sys2Proof/Laws/Queues.lean ====
section
/-! SUPPORT. What the queues and sets do, said once: membership in a computed set of channels, the lengths of
the transmit queue, the write queue and the sample ring, the issue of the head write, where a frame handed over goes,
how a plan treats the channels, and how an accepted frame reaches its effect. -/

namespace Sys2Proof.Machine

theorem chanSetBelow_has (f : Chan → Bool) (n : Nat) (hn : n ≤ 48) (c : Chan) :
    (chanSetBelow f n).getLsbD c.val = (decide (c.val < n) && f c) := by
  induction n with
  | zero => simp [chanSetBelow]
  | succ n ih =>
    have ih := ih (by omega)
    unfold chanSetBelow
    rw [dif_pos (by omega)]
    split
    · rename_i hf
      rw [BitVec.getLsbD_or, ih, BitVec.getLsbD_twoPow]
      by_cases h : n = c.val
      · subst h; simp [hf]
      · have : (decide (c.val < n + 1)) = decide (c.val < n) := by rw [decide_eq_decide]; omega
        rw [this]; simp [h]
    · rename_i hf
      rw [ih]
      by_cases h : n = c.val
      · subst h; simp [hf]
      · have : (decide (c.val < n + 1)) = decide (c.val < n) := by rw [decide_eq_decide]; omega
        rw [this]

/-- A channel is in the computed set exactly when it satisfies the condition. -/
@[simp] theorem chanSet_has (f : Chan → Bool) (c : Chan) : (chanSet f).has c = f c := by
  unfold chanSet ChanSet.has
  rw [chanSetBelow_has f 48 (le_refl _) c]; simp

/-- The composed set holds the channels that speak (R16). -/
theorem composedSet_has (s : State) (c : Chan) : (composedSet s).has c = speaks s c := chanSet_has _ c

/-- A hand-over keeps the transmit queue within its 16 places (R168, R171). -/
theorem coalesce_length (q q' : List TxFrame) (f : TxFrame) (hq : q.length ≤ 16)
    (h : coalesce q f = some q') : q'.length ≤ 16 := by
  unfold coalesce at h
  split at h
  · rename_i hc
    have hlt : (q.filter (fun e => !sameClass f e)).length < q.length := by
      rw [List.any_eq_true] at hc
      obtain ⟨e, he, hs⟩ := hc
      apply List.length_filter_lt_length_iff_exists.2
      exact ⟨e, he, by simp [hs]⟩
    split at h
    · cases h; exact hq
    · split at h
      · cases h; omega
      · cases h; simp only [List.length_append, List.length_singleton]; omega
  · split at h
    · cases h; rename_i hl; simp only [Config.txCapacity] at hl; simp; omega
    · cases h

/-- Off a quiet line a frame handed over enters the transmit queue by its class (R149, R169–R171). -/
theorem takenLink_queued (f : TxFrame) (s : State) (h : startsAtOnce s = false) :
    takenLink f s = (coalesce s.link.txq f).map (fun q => { s.link with txq := q }) := by
  unfold takenLink
  rw [if_neg (by rw [h]; decide)]

/-- The Link Controller that takes a frame keeps the queue within its 16 places (R149, R168, R171). -/
theorem takenLink_length (f : TxFrame) (s : State) (l : Link) (hq : s.link.txq.length ≤ 16)
    (h : takenLink f s = some l) : l.txq.length ≤ 16 := by
  unfold takenLink at h
  split at h
  · cases h; exact Nat.zero_le 16
  · cases hc : coalesce s.link.txq f with
    | none => rw [hc] at h; cases h
    | some q => rw [hc] at h; cases h; exact coalesce_length s.link.txq q f hq hc

/-- With the memory IDLE and no fetch waiting, the issue leaves the store with its head in flight, if there is a head to
issue (R82). -/
theorem issueWrite_store (s : State) (hm : s.store.mem = .idle) (hf : fetchWaiting s = false)
    (ht : s.store.writeTimer = none) :
    issueWrite s = { s with store := Store.headIssued s.store.queue s.store } := by
  obtain ⟨_, _, _, _, _, _, _, _, _, ⟨mem, queue, timer, _, _, _, _, _, _, _⟩, _⟩ := s
  dsimp only at hm ht
  subst hm ht
  unfold issueWrite canIssueWrite Store.headIssued
  cases queue with
  | nil => rfl
  | cons e rest =>
    obtain ⟨_, _, inFlight, _⟩ := e
    cases inFlight <;> simp [hf]

/-- With the memory IDLE no fetch goes on waiting, and serving one changes nothing else (R85). -/
theorem serveFetch_idle (s : State) (hm : s.store.mem = .idle) :
    fetchWaiting (serveFetch s) = false
      ∧ serveFetch s = { s with store := { s.store with fetch := (serveFetch s).store.fetch } } := by
  unfold serveFetch
  split
  · rename_i f hf
    obtain ⟨req, res⟩ := f
    cases res with
    | some d => exact ⟨by simp [fetchWaiting, hf], rfl⟩
    | none =>
      have : ∃ d, fetchData req s = some d := by
        cases req <;> simp only [fetchData, hm, if_true] <;> (try split) <;> simp
      obtain ⟨d, hd⟩ := this
      simp [hd, fetchWaiting]
  · rename_i hf; exact ⟨by simp [fetchWaiting, hf], rfl⟩

/-- Entering a write changes the write queue alone in the store (R80). -/
theorem enterWrite_store (t : Target) (d : List Byte) (c : Option (Fin 32)) (s s' : State)
    (h : enterWrite t d c s = some s') : s'.store = { s.store with queue := s'.store.queue } := by
  unfold enterWrite at h
  split at h <;> cases h
  rfl

/-- Serving a mark changes the write queue and the marks alone in the store (R81). -/
theorem serveMark_store (s : State) :
    (serveMark s).store = { s.store with
      queue := (serveMark s).store.queue
      lockMarks := (serveMark s).store.lockMarks
      calMark := (serveMark s).store.calMark } := by
  unfold serveMark writeCalibration writeLockByte
  split
  · split
    · rename_i h; rw [enterWrite_store _ _ _ _ _ h]
    · rfl
  · split
    · rfl
    · split
      · rename_i h; rw [enterWrite_store _ _ _ _ _ h]
      · rfl

/-- What follows the end of a write, said once: the waiting fetch and one mark are served, and the head that is then
there is in flight (R82–R84). -/
theorem afterWrite_idle (s : State) (hm : s.store.mem = .idle) (ht : s.store.writeTimer = none) :
    afterWrite s = { serveMark (serveFetch s) with
      store := Store.headIssued (serveMark (serveFetch s)).store.queue (serveMark (serveFetch s)).store } := by
  obtain ⟨h1, h2⟩ := serveFetch_idle s hm
  apply issueWrite_store
  · rw [serveMark_store, h2]; exact hm
  · rw [fetchWaiting, serveMark_store]; exact h1
  · rw [serveMark_store, h2]; exact ht

/-- A write keeps the write queue within its 8 places (R79, R80). -/
theorem enterQueue_length (q q' : List WriteEntry) (t : Target) (d : List Byte) (c : Option (Fin 32))
    (hq : q.length ≤ 8) (h : enterQueue q t d c = some q') : q'.length ≤ 8 := by
  unfold enterQueue at h
  split at h
  · cases h; simpa using hq
  · split at h
    · cases h; rename_i hl; simp only [Config.writeCapacity] at hl; simp; omega
    · cases h

/-- The sample ring keeps at most 4 samples (R97). -/
theorem pushSample_length (ring : List (Fin 1024)) (r : Fin 1024) (h : ring.length ≤ 4) :
    (pushSample ring r).length ≤ 4 := by
  unfold pushSample
  split <;> simp <;> omega

/-- A plan over some channels, each once, treats those of the affected set by their records as they were, and
changes nothing but the channel records and the pending-move queue (R34). -/
theorem planAll_spec (aff : ChanSet) (t : Chan → Bool) (cs : List Chan) (hn : cs.Nodup) (s : State) :
    let u := planAll aff t cs s
    (∀ c : Chan, u.channels[c.val] =
        if c ∈ cs ∧ aff.has c = true then plannedChannel s.channels[c.val] (t c) else s.channels[c.val])
      ∧ u = { s with channels := u.channels, drive := { s.drive with queue := u.drive.queue } } := by
  induction cs generalizing s with
  | nil => exact ⟨fun c => by simp [planAll], rfl⟩
  | cons c cs ih =>
    have hc : c ∉ cs := (List.nodup_cons.1 hn).1
    intro u
    have hu : u = planAll aff t cs (if aff.has c then planChannel c (t c) s else s) := rfl
    by_cases ha : aff.has c = true
    · rw [if_pos ha] at hu
      obtain ⟨i1, i2⟩ := hu ▸ ih (List.nodup_cons.1 hn).2 (planChannel c (t c) s)
      refine ⟨fun d => ?_, ?_⟩
      · rw [i1 d]
        have e : (planChannel c (t c) s).channels[d.val]
            = if d = c then plannedChannel s.channels[c] (t c) else s.channels[d.val] := by
          show (s.channels.set c.val _)[d.val] = _
          by_cases h : d = c
          · subst h; rw [if_pos rfl, Vector.getElem_set_self]
          · rw [if_neg h, Vector.getElem_set_ne]; exact fun h' => h (Fin.ext h'.symm)
        rw [e]
        by_cases h : d = c
        · subst h; rw [if_neg (fun h => hc h.1), if_pos rfl, if_pos ⟨List.mem_cons_self, ha⟩]; rfl
        · simp [h]
      · rw [i2]; rfl
    · rw [if_neg ha] at hu
      obtain ⟨i1, i2⟩ := hu ▸ ih (List.nodup_cons.1 hn).2 s
      refine ⟨fun d => ?_, i2⟩
      rw [i1 d]
      by_cases h : d = c
      · subst h; rw [if_neg (fun h => ha h.2), if_neg (fun h => ha h.2)]
      · simp [h]

/-- The kind of a frame that says a message is the message's kind (R154, R178). -/
theorem frameMsg_kind (f : WireFrame) (m : Msg) (h : frameMsg f = some m) : headerKind f.header = m.kind := by
  unfold frameMsg parseMsg at h
  split at h <;> (try cases h) <;> assumption

/-- The command of a message's kind is the acceptance of a frame of that kind. -/
theorem exec_frameCommand (m : Msg) (s : State) :
    exec (frameCommand m.kind) s = .next (acceptFrame m.kind s) := by
  cases m <;> rfl

/-- An accepted frame is delivered after its STOP (R161, R177). -/
theorem acceptFrame_of_accepted {s : State} {mark : Mark} {f : WireFrame} {m : Msg}
    (h : Accepted s mark f m) : acceptFrame m.kind s = deliver mark f.header m (stopLink mark s) := by
  obtain ⟨ha, hm, ho, hv, hk⟩ := h
  have sm : stopMark s = some mark := by
    rcases hk with ⟨rfl, hl, _⟩ | ⟨rfl, hl⟩ <;> simp [stopMark, hl]
  unfold acceptFrame acceptedFrame
  rw [ha, sm]
  dsimp only
  rw [hm]
  dsimp only
  rw [if_pos ⟨frameMsg_kind f m hm, by rcases hk with ⟨rfl, _, hg⟩ | ⟨rfl, _⟩ <;> simp [*], ho, hv⟩]

/-- A delivery is the effect after the first step, the greeting and the duplicate check (R177). -/
theorem deliver_steps (s : State) (mark : Mark) (f : WireFrame) (m : Msg) :
    deliver mark f.header m (stopLink mark s) =
      checkDuplicate mark f.header
        (greet (isNewStation s mark (headerOrigin f.header) m)
          (effect mark f.header m (heard s mark f m))) := rfl

end Sys2Proof.Machine
end

