-- ==== Sys2Proof/WellFormed.lean ====
section
/-! DEFINITION. Well-formed commands: those whose operands lie in the ranges the manual gives them. The ranges of
channels, piston inputs and samples stand in the types; what is left are a frame's length and the arguments
of the service commands. An ill-formed command still has a meaning: a frame of another length is no frame,
and a service command out of range is answered BADCMD. -/

namespace Sys2Proof

/-- The operands of a command are legal (R154, R227, R228). -/
def Instr.wellFormed : Instr → Bool
  | .frameReceived f => Machine.frameWholeLength f
  | .status group => decide (group.toNat < 6)
  | .slotRead _ slot => decide (slot.toNat < 128)
  | .slotWrite _ slot data => decide (slot.toNat < 128) && decide (data.length = 8)
  | .imageRead offset length => Machine.legalRange offset.toNat length.toNat
  | .imageWrite offset data => Machine.legalRange offset.toNat data.length
  | .serviceLock _ state => decide (state.toNat < 2)
  | .coldReset => true
  | .loadEvent => true
  | .startUpCompletion => true
  | .debouncedChange _ _ => true
  | .shiftEnd => true
  | .pistonPress _ => true
  | .pistonRelease _ => true
  | .sequenceEndTimerExpiry => true
  | .sampleEvent _ => true
  | .intervalTimerExpiry => true
  | .supplyFirstSample _ => true
  | .supplyLoss => true
  | .supplyWaitStart => true
  | .supplyWaitAbandon => true
  | .restore => true
  | .pulseStart => true
  | .pulseEnd _ => true
  | .verify _ => true
  | .takeUpHead => true
  | .storingCaptureRetake => true
  | .fetchServe => true
  | .fetchResult => true
  | .writeIssue => true
  | .writeComplete => true
  | .storeFault => true
  | .synchronise => true
  | .disturbance => true
  | .frameStart => true
  | .stretchExpiry => true
  | .frameNotAccepted _ => true
  | .linkFaultTimerExpiry => true
  | .brokenFrame => true
  | .linkStall _ => true
  | .cancelFrame => true
  | .recallFrame => true
  | .captureFrame => true
  | .handsetFrame => true
  | .toggleFrame => true
  | .tuttiFrame => true
  | .stageFrame => true
  | .setterFrame => true
  | .levelFrame => true
  | .announceFrame => true
  | .serviceByteArrival _ _ => true
  | .gapTimerExpiry => true
  | .ident => true
  | .channels => true
  | .journal _ => true
  | .restart => true
  | .replyEnd => true
  | .flashTimerExpiry _ => true
  | .startReceiving => true
  | .arbitrationLost => true
  | .stopWithoutDelivery => true

end Sys2Proof
end

