-- ==== Sys2Proof/Tests/Slice0.lean ====
section
/-! SUPPORT. Small tests: ill-formed commands refused, single commands with the values the manual gives, and for
each statement with hypotheses a concrete state that meets them. -/

namespace Sys2Proof.Tests

set_option Elab.async false

open Sys2Proof Sys2Proof.Machine

/-! ### States -/

/-- A command's next state. -/
def after (c : Instr) (s : State) : State :=
  match exec c s with
  | .next t => t
  | _ => s

/-- A station in RUN, synchronised, its samplers running and the supply present. -/
def run : State :=
  { State.reset with
    start := { State.reset.start with outcome := some .passed, poll := none }
    view := { View.reset with mode := .run }
    drive := { DriveSched.reset with supply := .present }
    store := { Store.reset with mem := .idle }
    relay := { Relay.reset 0 with lastLatched := some 0 }
    link := { Link.reset with line := .idle } }

/-- Gives channel c of a state a record. -/
def withChan (c : Chan) (x : Channel) (s : State) : State := { s with channels := s.channels.set c x }

/-- A MOVED channel of division 2 and stop 5. -/
def moved : Channel := { Channel.reset with type := .moved, division := 2, stop := 5 }

/-- A LIT channel of division 2 and stop 5. -/
def lit : Channel := { moved with type := .lit }

/-- Gives piston input i a function. -/
def withPiston (i : Fin 32) (f : PistonFn) (s : State) : State :=
  { s with params := { s.params with pistonFns := s.params.pistonFns.set i f } }

/-- An OPEN record of a CANCEL. -/
def openCancel : Record :=
  { number := 0, subject := .cancel .console, origin := 3, state := .opened, outcome := none,
    counts := Counts.zero, tOpen := 7, tClose := none }

/-- A station at work: channel 47 ENERGIZED and channel 1 QUEUED for a DRIVING operation with its record, a lock
byte in flight, a queued frame, a command waiting. -/
def work : State :=
  { withChan 47 { moved with registered := true, drive := .energized true .first 3 none }
      (withChan 1 { moved with registered := true, drive := .queued } run) with
    pending := [.pulseEnd 47]
    memory := [(0x400, 0)]
    drive := { DriveSched.reset with supply := .present, queue := [⟨1, true, .first⟩] }
    ops := { list := [], driving := some {
      body := .cancel .console, origin := 3, counts := Counts.zero, record := some 0 } }
    journal := { Journal.reset with
      records := Journal.reset.records.set 0 (some openCancel)
      held := 1
      next := 1
      number := 1 }
    store := { Store.reset with
      mem := .busy
      writeTimer := some 5
      queue := [{ target := .lockByte 31, data := [0], inFlight := true, capture := none }] }
    relay := { Relay.reset 0 with speaking := 0x800000000002, lastLatched := some 0x800000000002 }
    link := { Link.reset with line := .idle, txq := [.announce] } }

/-- The Link Controller of a station with these frames in its transmit queue. -/
def withTx (q : List TxFrame) (s : State) : Link := { s.link with txq := q }

/-- A station in RUN whose line has been quiet for 4 bit times. -/
def quiet : State := { run with link := { run.link with idleUs := 64 } }

/-- The transmit queue full of HANDSETs of 16 stops. -/
def fullTx : State := { run with link := withTx [
  .handset 0 true, .handset 1 true, .handset 2 true, .handset 3 true, .handset 4 true, .handset 15 true,
  .handset 6 true, .handset 7 true, .handset 8 true, .handset 9 true, .handset 10 true, .handset 11 true,
  .handset 12 true, .handset 13 true, .handset 14 true, .handset 16 true] run }

/-! ### Ill-formed commands are refused by their checks -/

theorem test_wellFormed_frame_length :
    Instr.wellFormed (.frameReceived { header := 0x13, payload := [5], check := 0 }) = false := by decide
theorem test_wellFormed_status_group : Instr.wellFormed (.status 6) = false := by decide
theorem test_wellFormed_slotRead_slot : Instr.wellFormed (.slotRead 255 128) = false := by decide
theorem test_wellFormed_slotWrite_slot :
    Instr.wellFormed (.slotWrite 0 128 [0, 0, 0, 0, 0, 0, 0, 0]) = false := by decide
theorem test_wellFormed_slotWrite_length :
    Instr.wellFormed (.slotWrite 0 127 [0, 0, 0, 0, 0, 0, 0]) = false := by decide
theorem test_wellFormed_imageRead_empty : Instr.wellFormed (.imageRead 0 0) = false := by decide
theorem test_wellFormed_imageRead_long : Instr.wellFormed (.imageRead 0 65) = false := by decide
theorem test_wellFormed_imageRead_end : Instr.wellFormed (.imageRead 0x3C1 64) = false := by decide
theorem test_wellFormed_imageWrite_empty : Instr.wellFormed (.imageWrite 0x3FF []) = false := by decide
theorem test_wellFormed_imageWrite_end : Instr.wellFormed (.imageWrite 0x3FF [1, 2]) = false := by decide
theorem test_wellFormed_lock_state : Instr.wellFormed (.serviceLock 0 2) = false := by decide
theorem test_wellFormed_accepts :
    Instr.wellFormed (.imageRead 0x3C0 64) = true ∧ Instr.wellFormed (.slotRead 255 127) = true
      ∧ Instr.wellFormed (.frameReceived { header := 0x13, payload := [5, 9], check := 0 }) = true
      ∧ Instr.wellFormed (.status 5) = true ∧ Instr.wellFormed (.serviceLock 0 1) = true
      ∧ Instr.wellFormed (.imageWrite 0x3FF [1]) = true := by decide

/-! ### Formats -/

/-- The published check value of the CRC with polynomial 07h over the digits 1 to 9 (R76 fixes the code). -/
theorem test_crc8_check_value : crc8 [0x31, 0x32, 0x33, 0x34, 0x35, 0x36, 0x37, 0x38, 0x39] = 0xF4 := by
  decide +kernel
/-- The published check value of the CRC with polynomial 1021h from FFFFh (R215 fixes the code). -/
theorem test_crc16_check_value : crc16 [0x31, 0x32, 0x33, 0x34, 0x35, 0x36, 0x37, 0x38, 0x39] = 0x29B1 := by
  decide +kernel
/-- R77: an erased record is BLANK, although seven bytes of FFh do not give a check of FFh. -/
theorem test_erased_record : classify (List.replicate 8 0xFF) = .blank
    ∧ crc8 (List.replicate 7 0xFF) ≠ 0xFF := by decide +kernel
/-- R154, R178: a HANDSET of stop 613 (265h) on from station 9: kind 3, bit 7 of byte 0 the state. -/
theorem test_handset_bytes : (wireFrame 3 9 (Msg.handset true 613).payload).header = 0x39
    ∧ (Msg.handset true 613).payload = [0x82, 0x65] := by decide
/-- R227: the sum byte of IDENT is FFh, and 01h FFh is IDENT. -/
theorem test_ident_sum : withSum [0x01] = [0x01, 0xFF] ∧ judgeCommand [0x01, 0xFF] = some .ident := by decide
/-- R74: the record of level 12 slot 7 stands at 43038h; the records fill 40000h–7FFFFh. -/
theorem test_slot_addresses : slotAddress 12 7 = 0x43038 ∧ slotAddress 0 0 = 0x40000
    ∧ slotAddress 255 127 + 8 = 0x80000 := by decide

/-! ### Witnesses: the machine -/

theorem witness_StepRunsTheFrontCommand : work.pending = .pulseEnd 47 :: [] := rfl
theorem witness_StepAnswers :
    step work = .next (after (.pulseEnd 47) { work with pending := [] }) := rfl
theorem witness_WithinCapacities : WithinCapacities work ∧ OneEntryPerClass work := by
  refine ⟨⟨by decide, by decide, by decide, by decide, by decide, by decide, ?_, ?_⟩, ?_⟩
  · intro h hh; cases hh
  · intro d hd; cases hd; decide
  · unfold OneEntryPerClass; decide
theorem witness_StoreLaws : StoreInRegions work ∧ OneWriteInFlight work :=
  ⟨⟨by decide, by decide, by decide⟩,
    ⟨by decide, ⟨fun _ => rfl, fun _ => ⟨_, rfl, rfl⟩⟩, by decide, by decide, by decide⟩⟩
theorem witness_DriveLaw : DriveLaw work := by
  refine ⟨fun h => absurd rfl h, ⟨by decide, by decide, by decide⟩, ⟨by decide, ?_⟩,
    ⟨by decide, by decide, by decide⟩, by unfold DrivingWhileOutstanding; decide⟩
  intro c dir a h
  have hn : ∀ c : Chan, work.channels[c].drive.isHeld = false := by decide
  have hc := hn c
  rw [h] at hc
  cases hc
theorem witness_SilentOutsideRun : SilentOutsideRun work := ⟨fun h => absurd rfl h, fun h => by cases h⟩
theorem witness_JournalReferences : JournalInTurn work ∧ ReferencesOpen work := by
  refine ⟨⟨by decide, by decide, by decide⟩, by decide, fun p hp => ?_⟩
  have h0 : p = 0 := by simpa [recordRefs, work] using hp
  subst h0
  exact ⟨openCancel, rfl, rfl⟩
theorem witness_SoundLaw : SoundLaw work := by
  refine ⟨⟨by decide, by decide, by decide⟩, ?_, ?_, fun _ => rfl⟩
  · intro h; cases h
  · intro _; decide
/-- The first and the last address beside the target of the write in flight (lock byte 31, at 41Fh). -/
theorem witness_MemoryOutsideTheWrite : ∀ a : Nat, a = 0x41E ∨ a = 0x420 →
    ∀ e, work.store.queue.head? = some e → e.inFlight = true →
      a < targetAddress e.target ∨ targetAddress e.target + e.data.length ≤ a := by
  intro a ha e he _
  cases he
  rcases ha with rfl | rfl <;> decide

/-! ### Witnesses: formats -/

theorem witness_FrameRoundTrip :
    frameWholeLength { header := 0xF0, payload := [], check := 0 } = true
      ∧ frameWholeLength { header := 0x9F, payload := [0, 255], check := 0 } = true := by decide
theorem witness_ServiceCommandRoundTrip :
    (ServiceCmd.imageWrite 0x3C0 (List.replicate 64 7)).legal = true
      ∧ (ServiceCmd.slotWrite 255 127 [1, 2, 3, 4, 5, 6, 7, 8]).legal = true := by decide +kernel
theorem witness_SlotRecords : (List.replicate 8 (0xFF : Byte)).length = 8
    ∧ classify (writtenRecord 0x800000000001) = .written 0x800000000001
    ∧ classify [0, 0, 0, 0, 0, 0, 0x5A, 0] = .corrupt := by decide +kernel

/-! ### Witnesses: resets and start-up -/

/-- An image that passes its tests (R215): signature, length 320h, check 0000h, and 800 bytes with that check. -/
def imageBytes : List Byte := [0xCA, 0x48, 0x03, 0x20, 0, 0] ++ [0xFF, 0xFF] ++ List.replicate 798 0
/-- A store memory that holds it. -/
def imageMemory : Memory := memWriteRange [] 0 imageBytes
/-- A station in STARTING whose memory holds an image. -/
def starting : State := { State.reset with memory := imageMemory }
theorem witness_LoadEventSettlesSafe : State.reset.view.mode = .starting
    ∧ State.reset.start.poll.isSome = true ∧ judgeImage (readImage State.reset) ≠ .passed := by
  decide +kernel
/-- A zero register stays zero over zero bytes. -/
theorem crc_zeros (n : Nat) : (List.replicate n (0 : Byte)).foldl crc16Byte 0 = 0 := by
  induction n with
  | zero => rfl
  | succ n ih =>
    rw [List.replicate_succ, List.foldl_cons]
    have h : crc16Byte 0 0 = 0 := by decide
    rw [h, ih]
theorem imageBytes_length : imageBytes.length = 0x326 := by
  unfold imageBytes
  simp only [List.length_append, List.length_replicate, List.length_cons, List.length_nil]
theorem starting_memory : starting.memory = memWriteRange [] 0 imageBytes := by
  simp only [starting, imageMemory]
/-- What is read of the image is the image written. -/
theorem image_read : readImage starting = imageBytes := by
  unfold readImage
  rw [if_pos (show starting.pins.memReady = true from rfl), starting_memory]
  exact (congrArg (memReadRange _ 0) imageBytes_length.symm).trans
    (memReadRange_memWriteRange [] 0 imageBytes rfl)
/-- The two bytes FFh bring the CRC's register from FFFFh to 0, where the zeros leave it. -/
theorem image_passes : judgeImage (readImage starting) = .passed := by
  rw [image_read]
  have h : ((imageBytes.drop 6).take 800) = [0xFF, 0xFF] ++ List.replicate 798 0 := by
    unfold imageBytes
    rw [show 6 = ([0xCA, 0x48, 0x03, 0x20, 0, 0] : List Byte).length from rfl, List.append_assoc,
      List.drop_left,
      List.take_of_length_le (by
        simp only [List.length_append, List.length_replicate, List.length_cons, List.length_nil]; omega)]
  have hc : crc16 ([0xFF, 0xFF] ++ List.replicate 798 0) = 0 := by
    unfold crc16
    rw [List.foldl_append]
    have h2 : List.foldl crc16Byte 0xFFFF#16 [0xFF, 0xFF] = 0 := by decide +kernel
    rw [h2, crc_zeros]
  unfold judgeImage
  rw [h, hc]
  decide +kernel
theorem witness_LoadEventLoadsTheImage : starting.view.mode = .starting ∧ starting.start.poll.isSome = true
    ∧ starting.start.safeStrap = false ∧ judgeImage (readImage starting) = .passed
    ∧ starting.ops = Sequencer.reset ∧ starting.store.queue = [] :=
  ⟨rfl, rfl, rfl, image_passes, rfl, rfl⟩
/-- R215: a memory that does not answer gives bytes that fail the first test. -/
theorem test_unanswering_memory_fails :
    judgeImage (readImage { starting with pins := { Pins.quiet with memReady := false } }) = .signature := by
  decide +kernel
/-- R216, R218: P of FFh is taken as 12 and Tmax as 250; Tover of 0 is legal, Tsettle of 0 is taken as 5. -/
theorem test_clamped_values :
    let p := paramsOf imageBytes
    (p.p, p.tmax, p.tover, p.tsettle, p.g, p.s, p.h) = (12, 250, 0, 5, 1, 8, 0) := by decide +kernel
/-- A station past its load event, its start-up wait running. -/
def waiting : State :=
  { State.reset with
    start := { State.reset.start with outcome := some .passed, poll := none, wait := some 3 }
    store := { Store.reset with mem := .idle } }
/-- The same at a SHOE-role station whose held stage is 5. -/
def waitingShoe : State :=
  { waiting with
    params := { Params.reset with shoeRole := true }
    cresc := { Cresc.reset with stage := 5, cal := .good } }
/-- The same settled SAFE. -/
def waitingSafe : State := { waiting with start := { waiting.start with safe := true, safeStrap := true } }
theorem witness_CompletionEntersRun : waiting.view.mode = .starting ∧ waiting.start.wait.isSome = true
    ∧ waiting.start.safe = false ∧ waiting.view.tutti = false ∧ waiting.view.stage = 0
    ∧ waiting.link.txq = [] ∧ waiting.params.shoeRole = false := by decide
theorem witness_CompletionSendsTheStage : waitingShoe.view.mode = .starting
    ∧ waitingShoe.start.wait.isSome = true ∧ waitingShoe.start.safe = false
    ∧ waitingShoe.view.tutti = false ∧ waitingShoe.view.stage = 0 ∧ waitingShoe.link.txq = []
    ∧ waitingShoe.params.shoeRole = true ∧ heldPair waitingShoe ≠ waitingShoe.cresc.lastSent
    ∧ waitingShoe.cresc.interval = none := by decide
theorem witness_CompletionEntersSafe : waitingSafe.view.mode = .starting
    ∧ waitingSafe.start.wait.isSome = true ∧ waitingSafe.start.safe = true ∧ waitingSafe.view.tutti = false
    ∧ waitingSafe.view.stage = 0 ∧ ∀ c : Chan, waitingSafe.channels[c].type = .plain := by decide
/-- R222: the completion enters RUN with the ANNOUNCE queued. -/
theorem test_completion : (after .startUpCompletion waiting).view.mode = .run
    ∧ (after .startUpCompletion waiting).link.txq = [.announce]
    ∧ (after .startUpCompletion waiting).link.line = .seeking := by decide
/-- R220: a cold reset while a station is at work releases it into STARTING. -/
theorem test_cold_reset : (after .coldReset work).view.mode = .starting
    ∧ (after .coldReset work).drive.queue = [] ∧ (after .coldReset work).journal.held = 0 := by decide

/-! ### Witnesses: stop channels -/

/-- Crescendo entry and exit of channel 47 under program 3. -/
def withWindow (e x : Fin 60) (s : State) : State :=
  { s with params := { s.params with crescendo := s.params.crescendo.set 3 (s.params.crescendo[3].set 47 (e, x)) } }
/-- A station in SAFE. -/
def safe : State := { run with view := { View.reset with mode := .safe }, start := { run.start with safe := true } }
/-- A station in LISTEN. -/
def listen : State := { run with view := { View.reset with mode := .listen, duplicateSeen := true } }
theorem witness_ComposedSet : safe.view.mode = .safe ∧ run.view.mode = .run ∧ listen.view.mode = .listen := by
  decide
/-- R114: a window 3–7 contains the stages 3 to 6. -/
theorem test_crescendo_window :
    let s := withWindow 3 7 { run with view := { run.view with program := 3 } }
    let at' := fun st => (composedSet { s with view := { s.view with stage := st } }).has 47
    (at' 2, at' 3, at' 6, at' 7) = (false, true, true, false) := by decide +kernel
theorem witness_HandMove :
    let s := withChan 47 moved run
    let q := { withChan 47 { moved with registered := true, drive := .queued } run with
      drive := { run.drive with queue := [⟨47, true, .first⟩] } }
    (sampling s = true ∧ s.channels[47].type = .moved ∧ s.channels[47].drive = .idle
      ∧ s.channels[47].contact ≠ true ∧ s.view.mode = .run
      ∧ takenLink (.handset s.channels[47].stop true) s = some (withTx [.handset 5 true] s))
    ∧ (sampling q = true ∧ q.channels[47].type = .moved ∧ q.channels[47].drive = .queued
      ∧ q.channels[47].contact ≠ true ∧ q.view.mode = .run
      ∧ takenLink (.handset q.channels[47].stop true) q = some (withTx [.handset 5 true] q)) := by decide
theorem witness_HandMoveInListen :
    let s := withChan 0 moved listen
    sampling s = true ∧ s.channels[0].type = .moved ∧ s.channels[0].drive = .idle
      ∧ s.channels[0].contact ≠ true ∧ s.view.mode = .listen := by decide
theorem witness_LitPress :
    let s := withChan 47 lit run
    let p := withChan 47 { lit with contact := true } run
    (sampling s = true ∧ s.channels[47].type = .lit ∧ s.channels[47].contact = false ∧ s.view.mode = .run
      ∧ takenLink (.handset s.channels[47].stop (!s.channels[47].registered)) s = some (withTx [.handset 5 true] s))
    ∧ (sampling p = true ∧ p.channels[47].type = .lit ∧ p.channels[47].contact = true
      ∧ p.view.mode = .run) := by decide
theorem witness_LitPressInListen :
    let s := withChan 47 lit listen
    sampling s = true ∧ s.channels[47].type = .lit ∧ s.channels[47].contact = false
      ∧ s.view.mode = .listen := by decide
/-- R10, R13: a LIT press turns the stop on, lights its lamp and hands over a HANDSET of stop 5 on. -/
theorem test_lit_press :
    let t := after (.debouncedChange 47 true) (withChan 47 lit run)
    t.channels[47].registered = true ∧ t.link.txq = [.handset 5 true] ∧ onOutput t 47 = true
      ∧ t.relay.shift = some 0x800000000000 := by decide
theorem witness_PlainChannelFollows :
    (sampling safe = true ∧ safe.channels[47].contact ≠ true ∧ safe.view.mode = .safe)
    ∧ (sampling run = true ∧ run.channels[0].contact ≠ true ∧ run.channels[0].type = .plain
      ∧ run.view.mode = .run)
    ∧ (sampling waiting = true ∧ waiting.channels[47].contact ≠ true ∧ waiting.view.mode = .starting) := by
  decide
/-- A channel's contact arrives during its pulse: Tover 0 and Tover above 0; a held channel. -/
theorem witness_DrivenChannel :
    let s := withChan 47 { moved with drive := .energized true .first 3 none } run
    let h := withChan 0 { moved with drive := .held true .second } listen
    (sampling s = true ∧ s.channels[47].contact ≠ true ∧ s.channels[47].type = .moved
      ∧ s.channels[47].drive = .energized true .first 3 none ∧ s.view.mode = .run ∧ s.params.tover = 0)
    ∧ (sampling h = true ∧ h.channels[0].contact ≠ true ∧ h.channels[0].type = .moved
      ∧ h.channels[0].drive = .held true .second ∧ h.view.mode = .listen) := by decide
theorem witness_ShiftEnd :
    ({ run.relay with shift := some 5, further := true } : Relay).shift = some 5
      ∧ (7 : ChanSet) ≠ run.relay.speaking ∧ run.relay.shift = none := by decide
/-- R19: the flagged further shift sends the speaking set as it is at that moment. -/
theorem test_further_shift :
    let t := after .shiftEnd { run with relay := { run.relay with shift := some 5, further := true, speaking := 7 } }
    t.relay.pipes = 5 ∧ t.relay.shift = some 7 ∧ t.relay.further = false := by decide

/-! ### Witnesses: pistons -/

theorem witness_HandMoveWithoutPlace :
    let s := withChan 47 moved fullTx
    let p := withChan 47 lit fullTx
    (sampling s = true ∧ s.channels[47].type = .moved ∧ s.channels[47].drive = .idle ∧ s.channels[47].contact ≠ true
      ∧ s.view.mode = .run ∧ takenLink (.handset s.channels[47].stop true) s = none)
    ∧ (sampling p = true ∧ p.channels[47].type = .lit ∧ p.channels[47].contact = false
      ∧ takenLink (.handset p.channels[47].stop (!p.channels[47].registered)) p = none) := by decide
/-- R171: a HANDSET without a place is lost with TX_FULL, and the stop keeps its state. -/
theorem test_handset_without_place :
    let t := after (.debouncedChange 47 true) (withChan 47 moved fullTx)
    t.channels[47].registered = true ∧ t.link.txq = fullTx.link.txq
      ∧ (t.journal.records[0]).map (fun r => r.subject) = some (.fault .txFull 0x30 0 0 0) := by decide
theorem witness_HandOver :
    (∀ e ∈ fullTx.link.txq, e.cls ≠ (TxFrame.setter true).cls)
      ∧ (∃ e ∈ fullTx.link.txq, e.cls = (TxFrame.handset 15 false).cls)
      ∧ (∃ e ∈ [TxFrame.toggle 9 .flip], e.cls = (TxFrame.toggle 9 .flip).cls ∧ e.isFlip = true)
      ∧ (∀ e ∈ [TxFrame.toggle 9 .on], e.cls = (TxFrame.toggle 9 .flip).cls → e.isFlip = false)
      ∧ fullTx.view.mode = .run ∧ takenLink (.setter true) fullTx = none
      ∧ takenLink (.setter true) run = some (withTx [.setter true] run) ∧ safe.view.mode ≠ .run := by decide
/-- The line is quiet at 64 µs of 16 µs bits, and not at 63. -/
theorem witness_QuietLink :
    quiet.link.line = .idle ∧ 4 * quiet.params.rate.bitUs ≤ quiet.link.idleUs ∧ quiet.link.outLck = false
      ∧ quiet.pins.lckLow = false ∧ quiet.link.outLda = false ∧ quiet.pins.ldaLow = false
      ∧ quiet.link.hand = none ∧ quiet.link.txq = [] ∧ ¬4 * quiet.params.rate.bitUs ≤ 63 := by decide
/-- R149: on a quiet link the START is in the event of the hand-over, so a second hand-over of the class in the same
event leaves the frame in hand. -/
theorem test_start_at_hand_over :
    let t := handOver (.setter true) quiet
    t.link.line = .sending ∧ t.link.outLda = true ∧ t.link.txq = []
      ∧ t.link.hand = some { frame := .setter true, payload := [1], attempts := 0 }
      ∧ (handOver (.setter false) t).link.hand = t.link.hand
      ∧ (handOver (.setter false) t).link.txq = [.setter false] := by decide
/-- R169: a flip of a stop whose flip is queued takes it away; R171: a full queue refuses a new class. -/
theorem test_coalescing : coalesce [.toggle 9 .flip, .announce] (.toggle 9 .flip) = some [.announce]
    ∧ (handOver (.setter true) fullTx).link.txq.length = 16
    ∧ (handOver (.setter true) fullTx).journal.number = 1 := by decide
theorem witness_PistonPress :
    let s := withPiston 31 (.recall 127) run
    let u := withPiston 0 .levelUp { run with view := { run.view with level := 254 } }
    (s.view.mode = .run ∧ pistonsSampled s = true ∧ s.pistons.inputs[31].pressed = false
      ∧ pistonFrame s.view s.params.pistonFns[31] = some (.recall 0 127)
      ∧ takenLink (.recall 0 127) s = some (withTx [.recall 0 127] s))
    ∧ (pistonFrame u.view u.params.pistonFns[0] = some (.level 255)
      ∧ takenLink (.level 255) u = some (withTx [.level 255] u)) := by decide
theorem witness_PistonPressWithoutFrame :
    let n := withPiston 31 .nothing run
    let u := withPiston 0 .levelUp { run with view := { run.view with level := 255 } }
    let d := withPiston 31 .levelDown run
    let f := withPiston 31 .set fullTx
    (n.params.pistonFns[31] = .nothing ∧ n.view.mode = .run ∧ pistonsSampled n = true
      ∧ n.pistons.inputs[31].pressed = false)
    ∧ (u.params.pistonFns[0] = .levelUp ∧ u.view.level.val = 255)
    ∧ (d.params.pistonFns[31] = .levelDown ∧ d.view.level.val = 0)
    ∧ (pistonFrame f.view f.params.pistonFns[31] = some (.setter true) ∧ takenLink (.setter true) f = none) := by
  decide
/-- R129: RECALL n hands over a CAPTURE while the setter is armed; R137: LEVEL UP at 255 hands over nothing. -/
theorem test_press :
    (after (.pistonPress 31) (withPiston 31 (.recall 127) { run with view := { run.view with setter := true } })).link.txq
        = [.capture 0 127]
    ∧ (after (.pistonPress 0) (withPiston 0 .levelUp { run with view := { run.view with level := 255 } })).link.txq
        = [] := by decide
theorem witness_SequencerSteps :
    (run.view.lastRecall = none ∧ 1 ≤ 1 ∧ (128 : Nat) ≤ 128)
    ∧ (let v := { run.view with lastRecall := some (255, 127) };
        v.lastRecall = some (255, 127) ∧ (255 : Fin 256).val = 255 ∧ (127 : Fin 128).val + 1 = 128)
    ∧ (let v := { run.view with lastRecall := some (0, 0) };
        v.lastRecall = some (0, 0) ∧ (0 : Fin 256).val = 0 ∧ (0 : Fin 128).val = 0)
    ∧ (let v := { run.view with lastRecall := some (4, 126) };
        v.lastRecall = some (4, 126) ∧ (127 : Fin 128).val = (126 : Fin 128).val + 1 ∧ (127 : Fin 128).val < 128) := by
  decide
/-- R130, R131 at G = 8: NEXT after slot 7 begins the next level, PREV before slot 0 ends the level before; a
last recall beyond G goes to slot 0 by NEXT and to slot G − 1 by PREV. -/
theorem test_sequencer :
    let at' := fun l n => { run.view with lastRecall := some (l, n) }
    nextStep (at' 3 7) 8 = .place 4 0 ∧ prevStep (at' 3 0) 8 = .place 2 7
      ∧ nextStep (at' 3 20) 8 = .place 3 0 ∧ prevStep (at' 3 20) 8 = .place 3 7 := by decide
theorem witness_SequencerPress :
    let n := withPiston 31 .next run
    let p := withPiston 31 .prev run
    let e := withPiston 0 .prev { run with view := { run.view with lastRecall := some (0, 0) } }
    (n.view.mode = .run ∧ pistonsSampled n = true ∧ n.pistons.inputs[31].pressed = false
      ∧ n.params.pistonFns[31] = .next ∧ nextStep n.view n.params.g = .place 0 0
      ∧ takenLink (.recall 0 0) n = some (withTx [.recall 0 0] n))
    ∧ (p.params.pistonFns[31] = .prev ∧ prevStep p.view p.params.g = .nothing ∧ pistonsSampled p = true)
    ∧ (e.params.pistonFns[0] = .prev ∧ prevStep e.view e.params.g = .atEnd
      ∧ e.view.lastRecall = some (0, 0) ∧ pistonsSampled e = true) := by decide
theorem witness_TuttiPress :
    let s := withPiston 31 .tutti run
    let queued := { s with link := { s.link with txq := [.tutti true] } }
    let sending := { queued with link := { queued.link with
      txq := [.tutti false]
      hand := some { frame := .tutti false, payload := [0], attempts := 0 } } }
    (s.view.mode = .run ∧ pistonsSampled s = true ∧ s.pistons.inputs[31].pressed = false
      ∧ s.params.pistonFns[31] = .tutti ∧ queuedTutti s = none
      ∧ takenLink (.tutti (!tuttiBefore s)) s = some (withTx [.tutti true] s))
    ∧ (queuedTutti queued = some true ∧ tuttiBefore queued = !true)
    ∧ (queuedTutti sending = some false ∧ tuttiBefore sending = false
      ∧ takenLink (.tutti (!false)) sending = some (withTx [.tutti true] sending)) := by decide
/-- R136: two presses of TUTTI before the first is sent leave nothing queued. -/
theorem test_tutti_twice :
    let s := withPiston 31 .tutti { run with link := { run.link with txq := [.tutti true] } }
    (after (.pistonPress 31) s).link.txq = [] := by decide
theorem witness_Releases :
    let held := fun s : State => { s with pistons := { s.pistons with
      inputs := s.pistons.inputs.set 31 { pressed := true, count := 0 } } }
    let r := held (withPiston 31 .set run)
    let l := held listen
    (pistonsSampled r = true ∧ r.pistons.inputs[31].pressed = true ∧ r.view.mode = .run
      ∧ r.params.pistonFns[31] = .set ∧ takenLink (.setter false) r = some (withTx [.setter false] r))
    ∧ (pistonsSampled l = true ∧ l.pistons.inputs[31].pressed = true ∧ l.view.mode ≠ .run)
    ∧ (pistonsSampled listen = true ∧ listen.pistons.inputs[31].pressed = false
      ∧ listen.view.mode = .listen)
    ∧ (pistonsSampled waiting = true ∧ waiting.pistons.inputs[31].pressed = false
      ∧ waiting.view.mode = .starting) := by decide
/-- R142: a press in LISTEN is journaled DUPLICATE_ID with the input. -/
theorem test_ignored_press :
    ((after (.pistonPress 31) listen).journal.records[0]).map (fun r => r.subject)
      = some (.fault .duplicateId 1 31 0 0) := by decide
theorem test_release : (after (.pistonRelease 31) (withPiston 31 .set { run with pistons := { run.pistons with
      inputs := run.pistons.inputs.set 31 { pressed := true, count := 0 } } })).link.txq = [.setter false] := by
  decide
/-- A LEVEL-role station with the setter armed at level 255. -/
def levelArmed : State :=
  { run with
    params := { run.params with levelRole := true }
    view := { run.view with setter := true, level := 255 } }
/-- Eight writes of other targets. -/
def fullWrites : List WriteEntry :=
  (List.range 8).map (fun k => ⟨.slot 0 (Fin.ofNat 128 k), writtenRecord 0, false, none⟩)
theorem witness_LockPress :
    let s := withPiston 31 .lock levelArmed
    let f := { s with store := { s.store with queue := fullWrites } }
    (s.view.mode = .run ∧ pistonsSampled s = true ∧ s.pistons.inputs[31].pressed = false
      ∧ s.params.pistonFns[31] = .lock ∧ s.params.levelRole = true ∧ s.view.setter = true
      ∧ (enterQueue s.store.queue (.lockByte 31) [0x7F] none).isSome = true)
    ∧ enterQueue f.store.queue (.lockByte 31) [0x7F] none = none
    ∧ (withPiston 31 .lock run).params.levelRole = false := by decide
/-- R74, R88: locking level 255 clears bit 7 of lock byte 31. -/
theorem test_lock_press :
    (after (.pistonPress 31) (withPiston 31 .lock levelArmed)).store.queue.map (fun e => (e.target, e.data))
      = [(.lockByte 31, [0x7F])] := by decide +kernel

/-! ### Witnesses: the crescendo shoe and the timers -/

/-- A shoe station in RUN with a good calibration 100–900 and the setter armed. -/
def shoe : State :=
  { run with
    params := { run.params with shoeRole := true, s := 60 }
    store := { run.store with c0 := 100, c1 := 900 }
    cresc := { Cresc.reset with cal := .good, filtered := some 164, ring := [164, 164, 164, 164] }
    view := { run.view with setter := true } }
theorem witness_ShoePistons :
    let p := withPiston 31 (.program 3) { shoe with cresc := { shoe.cresc with interval := some 19 } }
    let c := withPiston 0 .calibrate shoe
    let taken := fun x => { c with cresc := { c.cresc with procedure := some x } }
    (p.view.mode = .run ∧ pistonsSampled p = true ∧ p.pistons.inputs[31].pressed = false
      ∧ p.params.shoeRole = true ∧ p.params.pistonFns[31] = .program 3 ∧ p.cresc.cal = .good
      ∧ p.cresc.interval ≠ none)
    ∧ (c.params.pistonFns[0] = .calibrate ∧ c.view.setter = true ∧ c.cresc.filtered = some 164
      ∧ c.cresc.procedure = none)
    ∧ ((taken 100).cresc.procedure = some 100 ∧ calSpan 100 164 = 64
      ∧ (enterQueue (taken 100).store.queue .calibration (calibrationBytes 100 164) none).isSome = true)
    ∧ enterQueue fullWrites .calibration (calibrationBytes 100 164) none = none
    ∧ ((taken 101).cresc.procedure = some 101 ∧ calSpan 101 164 = 63) := by decide
theorem witness_ProgramSendsItsStage :
    let p := withPiston 31 (.program 3) shoe
    let f := { p with link := withTx fullTx.link.txq p }
    (p.params.pistonFns[31] = .program 3 ∧ p.params.shoeRole = true ∧ p.cresc.cal = .good
      ∧ (3, p.cresc.stage) ≠ p.cresc.lastSent ∧ p.cresc.interval = none
      ∧ takenLink (.stage 3 p.cresc.stage) p = some (withTx [.stage 3 0] p))
    ∧ takenLink (.stage 3 f.cresc.stage) f = none := by decide
theorem witness_RefusedShoePistons :
    let p := withPiston 31 (.program 3) { shoe with cresc := { shoe.cresc with cal := .faulted } }
    let c := fun s => withPiston 0 .calibrate s
    ((∃ k, p.params.pistonFns[31] = .program k) ∧ p.cresc.cal = .faulted)
    ∧ (c run).params.pistonFns[0] = .calibrate ∧ (c run).params.shoeRole = false
    ∧ (c { shoe with view := { shoe.view with setter := false } }).view.setter = false
    ∧ (c { shoe with cresc := { shoe.cresc with filtered := none } }).cresc.filtered = none :=
  ⟨⟨⟨3, rfl⟩, rfl⟩, rfl, rfl, rfl, rfl⟩
/-- R107, R139: PROGRAM 3 of a shoe at rest sends its STAGE and starts the interval. -/
theorem test_program : (after (.pistonPress 31) (withPiston 31 (.program 3) shoe)).link.txq = [.stage 3 0]
    ∧ (after (.pistonPress 31) (withPiston 31 (.program 3) shoe)).cresc.interval = some 0 := by decide
/-- R100, R210: a span of 63 is rejected with the candidate pair. -/
theorem test_rejected_calibration :
    let c := withPiston 0 .calibrate { shoe with cresc := { shoe.cresc with procedure := some 101 } }
    ((after (.pistonPress 0) c).journal.records[0]).map (fun r => r.subject)
      = some (.fault .shoeFault 0 101 0 164) := by decide
theorem witness_StageCandidates : (8 ≤ 8 ∧ (60 : Nat) ≤ 60) ∧ (0 : Nat) * 60 < 1000 * 1
    ∧ 1000 * 59 ≤ 999 * 60 ∧ 999 * 60 < 1000 * (59 + 1) ∧ (999 : Nat) < 1000 := by decide
/-- R103: the bands of S = 60 at their ends: stage 1 from 17 on (1000/60 rounded up), stage 59 from 984 on. -/
theorem test_candidates : (candidate 60 16, candidate 60 17, candidate 60 983, candidate 60 984, candidate 60 1000)
    = (0, 1, 58, 59, 59) := by decide
theorem witness_HeldStage : candidate 8 (500 - 50) ≤ 3 ∧ 3 < candidate 8 500 ∧ (0 : Nat) < 999
    ∧ 3 < candidate 8 (999 - 50) ∧ candidate 8 (min 1000 (1 + 50)) < 7 := by decide
/-- The ends of the position of a pair 100–900 and of its mirror image, and one step inside them. -/
theorem witness_Position : ((100 : Fin 1024) < 900 ∧ (100 : Fin 1024) ≤ 100 ∧ (900 : Fin 1024) ≤ 900
    ∧ (100 : Fin 1024) < 101 ∧ (101 : Fin 1024) < 900) ∧ (position 900 100 900, position 900 100 100) = (0, 1000)
    ∧ (position 100 900 101, position 100 900 899, position 900 100 899) = (1, 998, 1) := by decide
theorem witness_SampleWithoutPlace :
    let s := { shoe with link := withTx fullTx.link.txq shoe }
    takenLink (.stage s.cresc.program (14 : Fin 60)) s = none ∧ s.cresc.interval = none := by decide
theorem witness_SampleEvent :
    (shoeSampled shoe = true ∧ shoe.cresc.ring = [164, 164, 164, 164] ∧ (291 : Nat) = (164 + 164 + 164 + 672) / 4)
    ∧ (let s := { shoe with cresc := { shoe.cresc with ring := [1, 2, 3] } };
        shoeSampled s = true ∧ s.cresc.ring = [1, 2, 3] ∧ (1 : Nat) = (1 + 2 + 3 + 1) / 4)
    ∧ (let s := { shoe with cresc := { shoe.cresc with ring := [1, 2] } };
        s.cresc.ring.length < 3)
    ∧ (shoe.view.mode = .run ∧ shoe.cresc.cal = .good ∧ shoe.cresc.interval = none
      ∧ (shoe.cresc.program, (14 : Fin 60)) ≠ shoe.cresc.lastSent
      ∧ takenLink (.stage 0 14) shoe = some (withTx [.stage 0 14] shoe)) := by decide
/-- R97, R102–R104, R107: the mean of 164, 164, 164 and 672 is 291; its position 191 × 1000 / 800 = 238, its
candidate 238 × 60 / 1000 = 14, sent at once. -/
theorem test_sample : (after (.sampleEvent 672) shoe).cresc.filtered = some 291
    ∧ (after (.sampleEvent 672) shoe).cresc.stage = 14
    ∧ (after (.sampleEvent 672) shoe).link.txq = [.stage 0 14] := by decide
theorem witness_Timers :
    let s := { shoe with cresc := { shoe.cresc with interval := some 20, stage := 14 } }
    let e := { run with
      cresc := { run.cresc with interval := some 20 }
      pistons := { run.pistons with seqEnd := some 1000 }
      link := { run.link with linkFault := some 2000 }
      flashes := { cresc := some { lit := true, ms := 250 }, seqEnd := some { lit := false, ms := 250 } } }
    (s.cresc.interval.isSome = true ∧ s.view.mode = .run ∧ heldPair s ≠ s.cresc.lastSent
      ∧ takenLink (.stage s.cresc.program s.cresc.stage) s = some (withTx [.stage 0 14] s))
    ∧ (e.cresc.interval.isSome = true ∧ heldPair e = e.cresc.lastSent)
    ∧ e.pistons.seqEnd.isSome = true ∧ e.link.linkFault.isSome = true
    ∧ e.flashes.cresc = some { lit := true, ms := 250 }
    ∧ e.flashes.seqEnd = some { lit := false, ms := 250 } := by decide
/-- A STAGE that differs at the end of the interval, without a place. -/
theorem witness_IntervalWithoutPlace :
    let s := { shoe with link := withTx fullTx.link.txq shoe, cresc := { shoe.cresc with interval := some 20, stage := 14 } }
    heldPair s ≠ s.cresc.lastSent ∧ s.cresc.interval.isSome = true
      ∧ takenLink (.stage s.cresc.program s.cresc.stage) s = none := by decide
theorem test_interval :
    (after .intervalTimerExpiry { shoe with cresc := { shoe.cresc with interval := some 20, stage := 14 } }).cresc.interval
      = some 0 := by decide

/-! ### Witnesses: the coil drive -/

theorem witness_SupplySamples :
    let x := fun v => { work with drive := { work.drive with supply := v } }
    (sampling (x .unsampled) = true ∧ (x .unsampled).drive.supply = .unsampled)
    ∧ (x .lost).drive.supply = .lost ∧ (x .waiting).drive.supply = .waiting
    ∧ work.drive.supply = .present
    ∧ work.channels[47].drive = .energized true .first 3 none
    ∧ work.channels[0].drive.isEnergized = false := by decide
/-- R63: the energized move is held toward its target with its attempt, and its coil released. -/
theorem test_supply_loss : (after .supplyLoss work).channels[47].drive = .held true .first
    ∧ onOutput work 47 = true ∧ onOutput (after .supplyLoss work) 47 = false := by decide
/-- Two held moves with the restore wait running: channel 47's contact has arrived, channel 0's not. -/
def holding : State :=
  { withChan 47 { moved with registered := true, contact := true, drive := .held true .second }
      (withChan 0 { moved with registered := true, drive := .held true .second } work) with
    drive := { work.drive with supply := .waiting, restore := some 100 } }
theorem witness_Restore : holding.drive.supply = .waiting
    ∧ holding.channels[47].drive.isHeld = true ∧ holding.channels[47].contact = holding.channels[47].registered
    ∧ holding.channels[0].drive.isHeld = true ∧ holding.channels[0].contact ≠ holding.channels[0].registered
    ∧ holding.channels[1].drive.isHeld = false ∧ anyOutstanding (after .restore holding) = true := by decide
/-- R66: the held move goes before the old head, and the channel that arrived is IDLE. -/
theorem test_restore : (after .restore holding).drive.queue = [⟨0, true, .second⟩, ⟨1, true, .first⟩]
    ∧ (after .restore holding).channels[47].drive = .idle := by decide
theorem witness_Pulses :
    let s := { work with params := { work.params with p := 2 } }
    (s.drive.queue = [⟨1, true, .first⟩] ∧ energizedCount s < s.params.p ∧ s.drive.supply = .present)
    ∧ work.params.p ≤ energizedCount work
    ∧ work.channels[47].drive = .energized true .first 3 none := by decide
theorem test_pulse_start :
    let t := after .pulseStart { work with params := { work.params with p := 2 } }
    t.channels[1].drive = .energized true .first 0 none ∧ t.drive.queue = [] ∧ onOutput t 1 = true := by decide
/-- Channel 47 settles with the given record, channel 1 waiting or not. -/
def settling (contact registered : Bool) (a : Attempt) : State :=
  withChan 47 { moved with contact := contact, registered := registered, drive := .settling true a 5 } work
theorem witness_Verify :
    ((settling true true .second).channels[47].drive = .settling true .second 5
      ∧ (settling true true .second).channels[47].contact = (settling true true .second).channels[47].registered
      ∧ anyOutstanding (after (.verify 47) (settling true true .second)) = true)
    ∧ ((settling false true .first).channels[47].drive = .settling true .first 5
      ∧ (settling false true .first).channels[47].contact ≠ (settling false true .first).channels[47].registered
      ∧ (settling false true .first).channels[47].registered = true)
    ∧ ((settling true false .second).channels[47].drive = .settling true .second 5
      ∧ (settling true false .second).channels[47].contact ≠ (settling true false .second).channels[47].registered
      ∧ (settling true false .second).channels[47].registered ≠ true) := by decide
theorem witness_VerifyClosesTheOperation :
    let s := withChan 1 moved (settling true true .first)
    s.channels[47].drive = .settling true .first 5 ∧ s.channels[47].contact = s.channels[47].registered
      ∧ anyOutstanding (after (.verify 47) s) = false
      ∧ (s.ops.driving.bind (fun d => d.record)) = some 0 ∧ s.journal.records[0] = some openCancel
      ∧ openCancel.state = .opened := by decide
/-- R57, R67: the last verify closes the record with done 1. -/
theorem test_verify :
    ((after (.verify 47) (withChan 1 moved (settling true true .first))).journal.records[0]).map
      (fun r => (r.state, r.counts.done)) = some (.closed, 1) := by decide
theorem witness_Stuck :
    (settling false true .second).channels[47].drive = .settling true .second 5
      ∧ (settling false true .second).channels[47].contact ≠ (settling false true .second).channels[47].registered
      ∧ (settling false true .second).channels[47].registered = true
      ∧ anyOutstanding (after (.verify 47) (settling false true .second)) = true := by decide
/-- R15, R60: the stop takes the contact, its fault flag is set and STUCK journaled with the channel. -/
theorem test_stuck :
    let t := after (.verify 47) (settling false true .second)
    t.channels[47].registered = false ∧ t.channels[47].fault = true
      ∧ (t.journal.records[1]).map (fun r => r.subject) = some (.fault .stuck 47 0 0 0) := by decide

/-! ### Witnesses: operations -/

/-- An entry of the operation list. -/
def entry (body : OpBody) (aff : ChanSet) (st : OpState) : OpEntry :=
  { body := body, origin := 3, affected := aff, state := st, asked := false, record := none }
/-- A station with a MOVED channel 47 that is registered on, and this operation list. -/
def listing (l : List OpEntry) : State :=
  { withChan 47 { moved with registered := true, contact := true } run with ops := { list := l, driving := none } }
theorem witness_TakeUpPlans :
    let s := listing [entry (.cancel .console) 0x800000000000 .waiting]
    s.ops.list = [entry (.cancel .console) 0x800000000000 .waiting]
      ∧ (entry (.cancel .console) 0x800000000000 .waiting).state = .waiting
      ∧ (entry (.cancel .console) 0x800000000000 .waiting).asked = false
      ∧ ∀ c : Chan, (0x800000000000 : ChanSet).has c = true → s.channels[c].type ≠ .plain := by decide
theorem witness_TakeUpPlansKind : (∀ l k, OpBody.cancel .console ≠ .recall l k)
    ∧ ∀ l k, OpBody.cancel .console ≠ .capture l k := by
  constructor <;> intro _ _ h <;> cases h
/-- A CANCEL with an OPEN record at a station whose earlier CANCEL, with its own, is DRIVING. -/
def overtaking : State :=
  { listing [{ entry (.cancel .console) 0x800000000000 .waiting with record := some 1 }] with
    ops := {
      list := [{ entry (.cancel .console) 0x800000000000 .waiting with record := some 1 }]
      driving := some { body := .cancel .console, origin := 3, counts := Counts.zero, record := some 0 } }
    journal := { work.journal with records := work.journal.records.set 1 (some openCancel), held := 2, next := 2 } }
theorem witness_PlanClosesTheEarlier : openRecordAt overtaking (some 0) 0 openCancel
    ∧ openRecordAt overtaking (some 1) 1 openCancel ∧ (∃ d, overtaking.ops.driving = some d ∧ d.record = some 0)
    ∧ (overtaking.ops.list.head?.bind (fun e => e.record)) ≠ some 0 :=
  ⟨⟨rfl, rfl, rfl⟩, ⟨rfl, rfl, rfl⟩, ⟨_, rfl, rfl⟩, by decide⟩
/-- R36: the operation that was DRIVING closes SUPERSEDED, and the new one's record shows its planned count. -/
theorem test_superseded :
    let t := after .takeUpHead overtaking
    (t.journal.records[0]).map (fun r => r.state) = some .superseded
      ∧ (t.journal.records[1]).map (fun r => (r.state, r.counts.planned)) = some (.opened, 1) := by decide
/-- R34, R36: a CANCEL queues the move of a channel that stands on and is DRIVING with planned 1. -/
theorem test_cancel :
    let t := after .takeUpHead (listing [entry (.cancel .console) 0x800000000000 .waiting])
    t.drive.queue = [⟨47, false, .first⟩] ∧ t.ops.list = []
      ∧ t.ops.driving.map (fun d => d.counts.planned) = some 1 ∧ t.relay.speaking = 0 := by decide
theorem witness_PlanTreats :
    let x := fun d => (withChan 47 { moved with contact := true, drive := d } work).channels[47]
    (x .idle).type = .moved ∧ (x .idle).drive = .idle ∧ (x .idle).contact = true ∧ (x .idle).contact ≠ false
      ∧ (x .queued).drive = .queued ∧ (x (.held true .second)).drive = .held true .second
      ∧ (x (.energized true .first 0 none)).drive.isEnergized = true
      ∧ (x (.settling true .first 0)).drive = .settling true .first 0 := by decide
theorem witness_PlanTreatsARecall :
    let e := entry (.recall 255 127) 0x800000000000 .fetching
    let s := { listing [e] with store := { run.store with
      fetch := some { req := .recall 255 127, result := some (writtenRecord 1) } } }
    s.ops.list = e :: [] ∧ (∀ c : Chan, e.affected.has c = true → s.channels[c].type ≠ .plain)
      ∧ e.state = .fetching
      ∧ s.store.fetch = some { req := .recall 255 127, result := some (writtenRecord 1) }
      ∧ classify (writtenRecord 1) = .written 1 := by decide +kernel
theorem witness_TakeUpAsks :
    let e := entry (.recall 255 127) 0x800000000000 .waiting
    let s := listing [e]
    (s.ops.list = [e] ∧ e.state = .waiting ∧ e.asked = false ∧ e.body = .recall 255 127 ∧ s.store.fetch = none)
    ∧ ({ s.store with fetch := some ⟨.imageRead 0 1, none⟩ } : Store).fetch ≠ none := by decide
theorem witness_Capture :
    let e := entry (.capture 255 127) 0x800000000000 .waiting
    let g := entry (.capture 255 127) 0x800000000000 .storing
    (listing [e]).ops.list = [e] ∧ e.body = .capture 255 127 ∧ e.state = .waiting ∧ e.asked = false
      ∧ (enterQueue [] (.slot 255 127) (writtenRecord 0x800000000000) none).isSome = true
      ∧ (listing [g]).ops.list = [g] ∧ g.state = .storing
      ∧ enterQueue fullWrites (.slot 255 127) (writtenRecord 0x800000000000) none = none := by decide +kernel
/-- The last slot's write in flight, waiting behind others, and not there. -/
theorem witness_EnterQueue :
    let e : WriteEntry := ⟨.slot 255 127, [1], false, some 3⟩
    let b : WriteEntry := ⟨.slot 255 127, [2], true, none⟩
    ([b, e] = [b] ++ e :: [] ∧ e.target = .slot 255 127 ∧ e.inFlight = false
      ∧ ∀ x ∈ [b] ++ ([] : List WriteEntry), x.target = .slot 255 127 → x.inFlight = true)
    ∧ (∀ x ∈ [b], x.target = .slot 255 127 → x.inFlight = true) ∧ [b].length < 8
    ∧ (∀ x ∈ fullWrites, x.target = .slot 255 127 → x.inFlight = true) ∧ ¬fullWrites.length < 8 := by decide +kernel
/-- R80: a queued entry takes the new data in its place; the one in flight is left, and the new entry stands behind. -/
theorem test_enterQueue :
    enterQueue [⟨.slot 0 1, [1], true, none⟩, ⟨.slot 0 1, [2], false, some 3⟩, ⟨.calibration, [4], false, none⟩]
        (.slot 0 1) [9] none
      = some [⟨.slot 0 1, [1], true, none⟩, ⟨.slot 0 1, [9], false, none⟩, ⟨.calibration, [4], false, none⟩]
    ∧ enterQueue [⟨.slot 0 1, [1], true, none⟩] (.slot 0 1) [9] none
      = some [⟨.slot 0 1, [1], true, none⟩, ⟨.slot 0 1, [9], false, none⟩] := by decide
/-- R40: the capture's write holds bit 7 of byte 5 for channel 47. -/
theorem test_capture :
    ((after .takeUpHead (listing [entry (.capture 255 127) 0x800000000000 .waiting])).store.queue.map
      (fun e => (e.target, e.data.take 7))) = [(.slot 255 127, [0, 0, 0, 0, 0, 0x80, 0x5A])] := by decide +kernel
theorem test_storing_retake :
    let e := entry (.capture 0 9) 0x800000000000 .storing
    (after .storingCaptureRetake (listing [e])).ops.list = []
      ∧ (after .storingCaptureRetake { listing [e] with store := { run.store with queue := fullWrites } }).ops.list
        = [e] := by decide +kernel
/-- A recall at the head with its fetch's result. -/
def fetched (bytes : List Byte) : State :=
  { listing [entry (.recall 255 127) 0x800000000000 .fetching] with
    store := { run.store with fetch := some { req := .recall 255 127, result := some bytes } } }
theorem witness_FetchResult :
    (fetched []).ops.list = [entry (.recall 255 127) 0x800000000000 .fetching]
      ∧ (∀ x ∈ ([] : List OpEntry), x.asked = false)
      ∧ (∀ c : Chan, (0x800000000000 : ChanSet).has c = true → (fetched []).channels[c].type ≠ .plain)
      ∧ classify (List.replicate 8 0xFF) = .blank ∧ classify (writtenRecord 1) = .written 1
      ∧ classify [0, 0, 0, 0, 0, 0, 0x5A, 0] = .corrupt := by decide +kernel
/-- R32, R77, R210: a corrupt record moves no stop and is journaled CHECK_FAIL with level and slot. -/
theorem test_check_fail :
    let t := after .fetchResult (fetched [0, 0, 0, 0, 0, 0, 0x5A, 0])
    t.channels[47].registered = true ∧ t.ops.list = []
      ∧ (t.journal.records[0]).map (fun r => r.subject) = some (.fault .checkFail 255 127 0 0) := by
  decide +kernel
theorem test_blank_recall :
    (after .fetchResult (fetched (List.replicate 8 0xFF))).channels[47].registered = false := by decide +kernel
theorem witness_Pruning :
    let e := entry (.recall 0 1) 3 .fetching
    (e.body.isCapture = false ∧ e.state ≠ .storing
      ∧ (∀ c : Chan, e.affected.has c = true → (3 : ChanSet).has c = true)
      ∧ ∀ x ∈ [entry (.cancel .console) 7 .waiting], x.body.isCapture = false)
    ∧ (∃ c : Chan, e.affected.has c = true ∧ (2 : ChanSet).has c = false)
    ∧ (∃ x ∈ [entry (.capture 0 1) 1 .storing], x.body.isCapture = true) := by decide

/-! ### Witnesses: the combination store -/

/-- A write of slot (0, 127) in flight, and a fetch that waits. -/
def fetching (mem : MemState) (req : FetchReq) : State :=
  { run with store := { run.store with
    queue := [⟨.slot 0 127, writtenRecord 5, true, none⟩]
    mem := mem
    fetch := some { req := req, result := none } } }
theorem witness_FetchServe :
    let e : WriteEntry := ⟨.slot 0 127, writtenRecord 5, true, none⟩
    let s := fetching .idle (.slotRead 0 127)
    (s.store.fetch = some { req := .slotRead 0 127, result := none } ∧ s.store.mem = .idle
      ∧ s.store.queue = [] ++ e :: [] ∧ e.target = .slot 0 127
      ∧ ∀ x ∈ ([] : List WriteEntry), x.target ≠ .slot 0 127)
    ∧ (∀ x ∈ s.store.queue, x.target ≠ .slot 1 127)
    ∧ (fetching .idle (.imageRead 0x3C0 64)).store.fetch = some { req := .imageRead 0x3C0 64, result := none }
    ∧ (fetching .busy (.slotRead 0 127)).store.mem = .busy := by decide +kernel
/-- R85: a waiting fetch waits on while the memory is BUSY, though a write of its slot stands in the queue. -/
theorem test_fetch_waits : (after .fetchServe (fetching .busy (.slotRead 0 127))).store.fetch
      = some { req := .slotRead 0 127, result := none }
    ∧ (after .fetchServe (fetching .idle (.slotRead 0 127))).store.fetch
      = some { req := .slotRead 0 127, result := some (writtenRecord 5) }
    ∧ canServeFetch (fetching .busy (.slotRead 0 127)) = false := by decide +kernel
/-- R86: a fetch made of a slot whose write is in flight takes the write's data, whatever the memory state. -/
theorem test_forwarding :
    (requestFetch (.slotRead 0 127) (fetching .busy (.imageRead 0 1))).store.fetch
      = some { req := .slotRead 0 127, result := some (writtenRecord 5) } := by decide +kernel
theorem witness_ServiceFetchResult :
    let s := fun r => { run with store := { run.store with fetch := some { req := r, result := some [1] } } }
    (s (.slotRead 0 127)).store.fetch = some { req := .slotRead 0 127, result := some [1] }
      ∧ (s (.imageRead 0x3FF 1)).store.fetch = some { req := .imageRead 0x3FF 1, result := some [1] }
      ∧ (s (.recall 0 1)).store.fetch = some { req := .recall 0 1, result := some [1] }
      ∧ (∀ e ∈ run.ops.list, e.asked = false) ∧ run.ops.list.head? = none := by decide
theorem witness_WaitingRecall :
    let e := { entry (.recall 0 1) 1 .waiting with asked := true }
    let s := { listing [e] with store := { run.store with
      fetch := some { req := .imageRead 0 1, result := some [1] } } }
    s.store.fetch = some { req := .imageRead 0 1, result := some [1] } ∧ s.ops.list = [e]
      ∧ e.asked = true ∧ e.state = .waiting ∧ e.body = .recall 0 1 := by decide
/-- A station with one write, of slot (255, 127), in flight or not. -/
def writing (inFlight : Bool) : State :=
  { run with store := { run.store with
    queue := [⟨.slot 255 127, [1, 2, 3, 4, 5, 6, 0x5A, 8], inFlight, some 5⟩]
    mem := if inFlight then .busy else .idle
    writeTimer := if inFlight then some 3 else none } }
theorem witness_WriteIssue :
    (writing false).store.queue = [⟨.slot 255 127, [1, 2, 3, 4, 5, 6, 0x5A, 8], false, some 5⟩]
      ∧ (writing false).store.mem = .idle ∧ (writing false).store.fetch = none
      ∧ (writing true).store.queue = [⟨.slot 255 127, [1, 2, 3, 4, 5, 6, 0x5A, 8], true, some 5⟩]
      ∧ Memory.wf (writing true).memory = true := by decide
theorem witness_DeferredMarks :
    let m := { writing true with store := { (writing true).store with lockMarks := 0x80000000#32 } }
    let c := { m with store := { m.store with calMark := true } }
    (m.store.calMark = false ∧ m.store.lockMarks.getLsbD (31 : Fin 32).val = true
      ∧ (∀ k : Fin 32, k < 31 → m.store.lockMarks.getLsbD k.val = false) ∧ ([] : List WriteEntry).length < 8)
    ∧ c.store.calMark = true ∧ (writing true).store.lockMarks = 0
    ∧ ({ m.store with fetch := some ⟨.recall 0 1, none⟩ } : Store).fetch = some { req := .recall 0 1, result := none }
    := by decide
theorem witness_FetchAtTheEndOfAWrite :
    let w : WriteEntry := ⟨.slot 255 127, [9], false, none⟩
    let m := fun req => { writing true with store := { (writing true).store with
      queue := ⟨.slot 255 127, [1, 2, 3, 4, 5, 6, 0x5A, 8], true, some 5⟩ :: [w]
      fetch := some { req := req, result := none } } }
    ((m (.recall 255 127)).store.fetch = some { req := .recall 255 127, result := none } ∧ [w] = [] ++ w :: []
      ∧ w.target = .slot 255 127 ∧ ∀ y ∈ ([] : List WriteEntry), y.target ≠ .slot 255 127)
    ∧ (∀ x ∈ [w], x.target ≠ .slot 0 0)
    ∧ (m (.imageRead 0 64)).store.fetch = some { req := .imageRead 0 64, result := none } := by decide
/-- R83, R85: the fetch that waited for the memory is served in the event of the write's end. -/
theorem test_fetch_at_write_end :
    let s := { writing true with store := { (writing true).store with
      fetch := some { req := .slotRead 255 127, result := none } } }
    (after .writeComplete s).store.fetch
      = some { req := .slotRead 255 127, result := some [1, 2, 3, 4, 5, 6, 0x5A, 8] } := by decide +kernel
theorem test_write_issue : (after .writeIssue (writing false)).store.mem = .busy
    ∧ (after .writeIssue (writing false)).store.writeTimer = some 0 := by decide
/-- R83: the last bytes of the last slot, at 7FFF8h–7FFFFh. -/
theorem test_write_complete : memRead (after .writeComplete (writing true)).memory 0x7FFF8 = 1
    ∧ memRead (after .writeComplete (writing true)).memory 0x7FFFF = 8
    ∧ (after .writeComplete (writing true)).store.queue = [] := by decide +kernel
/-- R84, R210: the STORE_FAULT record names the slot, and STORE FAULT is lit. -/
theorem test_store_fault :
    let t := after .storeFault (writing true)
    (t.journal.records[0]).map (fun r => r.subject) = some (.fault .storeFault 0 255 127 0)
      ∧ t.store.faultLit = true ∧ t.store.mem = .idle := by decide
/-- The write of (12, 6) in flight, with those of (12, 7) and (12, 8) waiting behind it. -/
def threeWrites : State :=
  { run with store := { run.store with
    queue := [⟨.slot 12 6, writtenRecord 1, true, none⟩, ⟨.slot 12 7, writtenRecord 11, false, none⟩,
      ⟨.slot 12 8, writtenRecord 43, false, none⟩]
    mem := .busy
    writeTimer := some 49 } }
/-- R82, R83, R84 (04, the worked sequence at 5 and 55 ms): the write behind is issued in the event in which the write
before it completes or faults; one more stays behind it. -/
theorem test_next_write_issued :
    let left : List WriteEntry :=
      [⟨.slot 12 7, writtenRecord 11, true, none⟩, ⟨.slot 12 8, writtenRecord 43, false, none⟩]
    let c := (after .writeComplete threeWrites).store
    let f := (after .storeFault threeWrites).store
    (c.queue = left ∧ c.mem = .busy ∧ c.writeTimer = some 0 ∧ c.faultLit = false)
      ∧ (f.queue = left ∧ f.mem = .busy ∧ f.writeTimer = some 0 ∧ f.faultLit = true) := by decide +kernel
/-- R81, R82: a deferred mark served in a completion that empties the queue is issued in it too. -/
theorem test_mark_issued :
    let c := (after .writeComplete { writing true with store := { (writing true).store with calMark := true } }).store
    c.queue.map (fun e => (e.target, e.inFlight)) = [(.calibration, true)] ∧ c.calMark = false ∧ c.mem = .busy := by
  decide +kernel

/-! ### Witnesses: the console link -/

/-- A station with a given line state. -/
def onLine (x : LineState) : State := { run with link := { run.link with line := x } }
/-- A frame in hand. -/
def hand (n : Nat) : Hand := { frame := .recall 255 127, payload := [255, 127], attempts := n }
/-- The station sends a RECALL of (255, 127), with n attempts counted. -/
def sending (n : Nat) : State :=
  { onLine .sending with link := { (onLine .sending).link with hand := some (hand n), outLda := true } }
/-- The station receives, with the frame whole. -/
def receivingWhole (f : WireFrame) : State :=
  { onLine .receiving with link := { (onLine .receiving).link with assembly := some f } }
theorem witness_LineEvents :
    (onLine .seeking).link.line = .seeking ∧ (onLine .idle).link.line = .idle
      ∧ (onLine .receiving).link.line = .receiving
      ∧ (let s := { run with link := { run.link with hand := some (hand 2) } };
          s.view.mode = .run ∧ s.link.line = .idle ∧ s.link.hand = some (hand 2))
      ∧ (let s := { run with link := { run.link with txq := [.announce] } };
          s.link.hand = none ∧ s.link.txq = [.announce])
      ∧ ((sending 0).link.line = .sending ∧ (sending 0).link.assembly = none)
      ∧ (receivingWhole ⟨0xA3, [], 0⟩).link.objection = false ∧ 9 < headerKind 0xA3
      ∧ frameGood ⟨0x83, [1], 0⟩ = false
      ∧ (let l := { run.link with stretch := some 20, hold := true }; l.stretch.isSome = true ∧ l.hold = true) := by
  decide +kernel
theorem test_frame_start :
    let t := after .frameStart { run with link := { run.link with txq := [.level 9] } }
    t.link.line = .sending ∧ t.link.outLda = true ∧ t.link.txq = []
      ∧ t.link.hand = some { frame := .level 9, payload := [9], attempts := 0 } := by decide
theorem test_start_receiving : (after .startReceiving (onLine .idle)).link.line = .receiving
    ∧ (after .arbitrationLost (sending 1)).link.hand = some (hand 1) := by decide
theorem test_synchronise : (after .synchronise (onLine .seeking)).link.line = .idle
    ∧ (after .disturbance (onLine .idle)).link.line = .seeking := by decide
/-- A CAPTURE of level 255, slot 200. -/
def captureFrame : WireFrame := wireFrame 2 9 [255, 200]
theorem witness_WholeFrame :
    (onLine .receiving).link.assembly = none ∧ (onLine .receiving).link.line = .receiving
      ∧ frameWholeLength captureFrame = true
      ∧ (sending 0).link.assembly = none ∧ (sending 0).link.hand = some (hand 0) := by decide
/-- R89: a LEVEL-role station vetoes a CAPTURE into a locked level, whatever its slot byte; R159: a bad check
draws an objection. -/
theorem test_answers :
    let s := { onLine .receiving with
      params := { run.params with levelRole := true }
      store := { run.store with lockCopy := 0 } }
    (after (.frameReceived captureFrame) s).link.veto = true
      ∧ (after (.frameReceived captureFrame) (onLine .receiving)).link.veto = false
      ∧ (after (.frameReceived { captureFrame with check := captureFrame.check + 1 }) s).link.objection = true
      ∧ (after (.frameReceived { captureFrame with check := captureFrame.check + 1 }) s).link.veto = false := by
  decide +kernel
theorem witness_FailedAttempts :
    (∀ n, (sending n).link.line = .sending ∧ (sending n).link.hand = some (hand n)
      ∧ (hand n).attempts = n)
    ∧ ((1 : Nat) < 2 ∧ (2 : Nat) ≤ 2)
    ∧ (receivingWhole captureFrame).link.assembly = some captureFrame
    ∧ headerKind captureFrame.header = 2 ∧ (receivingWhole captureFrame).link.objection = false
    ∧ (onLine .seeking).link.assembly = none ∧ (onLine .seeking).link.line = .seeking :=
  ⟨fun _ => ⟨rfl, rfl, rfl⟩, by decide, rfl, by decide +kernel, by decide, by decide, by decide⟩
/-- The frame sent is whole. -/
def sentWhole (n : Nat) : State :=
  { sending n with link := { (sending n).link with assembly := some (wireFrame 1 0 [255, 127]) } }
theorem witness_ObjectedSender : (sentWhole 2).link.line = .sending ∧ (sentWhole 2).link.assembly.isSome = true
    ∧ (let s := { sentWhole 0 with link := { (sentWhole 0).link with assembly := some captureFrame } };
        s.link.assembly = some captureFrame ∧ headerKind captureFrame.header = 2
          ∧ s.link.objection = false ∧ s.link.line = .sending) := by decide +kernel
theorem witness_Stalls :
    (onLine .off).link.line = .off
    ∧ ({ (onLine .idle).link with stalled := true } : Link).stalled = true
    ∧ (onLine .receiving).link.stalled = false ∧ (onLine .receiving).link.assembly = none
    ∧ (receivingWhole captureFrame).link.line = .receiving
    ∧ (receivingWhole captureFrame).link.assembly = some captureFrame
    ∧ (sending 2).link.stalled = false ∧ (sending 2).link.assembly = none
    ∧ (sentWhole 0).link.assembly = some (wireFrame 1 0 [255, 127]) := by decide +kernel
/-- R167: one stall gives one record, until LCK has been high. -/
theorem test_stall_once :
    let t := after (.linkStall none) (onLine .idle)
    (after (.linkStall none) t).journal.number = 1
      ∧ (after (.linkStall none) (after .synchronise t)).journal.number = 2 := by decide
/-- R162, R210: the third objected attempt drops the frame, with header 10h and cause 0. -/
theorem test_third_attempt :
    let t := after (.frameNotAccepted .objected) (sentWhole 2)
    t.link.hand = none ∧ t.link.linkFault = some 0
      ∧ (t.journal.records[0]).map (fun r => r.subject) = some (.fault .linkFault 0x10 0 0 0)
      ∧ (after (.frameNotAccepted .objected) (sentWhole 1)).link.hand = some (hand 2) := by decide
theorem test_stall :
    let t := after (.linkStall (some 0x25)) (onLine .receiving)
    t.link.line = .seeking ∧ (t.journal.records[0]).map (fun r => r.subject) = some (.fault .linkStall 2 0x25 1 0) := by
  decide
theorem test_broken : (after .brokenFrame (onLine .receiving)).link.line = .seeking
    ∧ (after .brokenFrame (sending 0)).link.hand = some (hand 1) := by decide
theorem test_stop_without_delivery :
    (after .stopWithoutDelivery (receivingWhole ⟨0xA3, [], 0⟩)).link.line = .idle := by decide

/-! ### Witnesses: link messages -/

/-- A station that has the frame of a message from a listed station 9 whole. -/
def hearing (m : Msg) (s : State) : State :=
  { s with
    link := { s.link with line := .receiving, assembly := some (wireFrame m.kind 9 m.payload) }
    view := { s.view with roster := s.view.roster.set 9 (some ⟨false, false, 0, 0⟩) } }
theorem hearing_accepted (s : State) (m : Msg) (h : s.link.objection = false ∧ s.link.veto = false)
    (hm : frameMsg (wireFrame m.kind 9 m.payload) = some m)
    (hg : frameGood (wireFrame m.kind 9 m.payload) = true) :
    Accepted (hearing m s) .received (wireFrame m.kind 9 m.payload) m :=
  ⟨rfl, hm, h.1, h.2, .inl ⟨rfl, rfl, hg⟩⟩
theorem witness_FramesAsk : (16 : Nat) ≤ (0x10 : Byte).toNat ∧ (0x10 : Byte) ≠ 0xFF ∧ (0xFE : Byte) ≠ 0xFF
    ∧ 128 ≤ (0x80 : Byte).toNat := by decide
/-- R24, R179: scope FFh is the console, 0Fh division 15, 10h and FEh are ignored; R180: slot 80h is ignored. -/
theorem test_operationOf : operationOf .received (.cancel 0xFF) = some (.cancel .console)
    ∧ operationOf .received (.cancel 0x0F) = some (.cancel (.division 15))
    ∧ operationOf .received (.cancel 0x10) = none ∧ operationOf .received (.recall 3 0x80) = none
    ∧ operationOf .transmitted (.handset true 5) = none := by decide
/-- A TOGGLE of stop 5 reaches a station where channel 47 carries it. -/
def toggling : State := hearing (.toggle 0 5) (withChan 47 moved run)
theorem witness_OperationFrames :
    Accepted toggling .received (wireFrame 4 9 (Msg.toggle 0 5).payload) (.toggle 0 5)
      ∧ FromListedStation toggling .received (wireFrame 4 9 (Msg.toggle 0 5).payload) (.toggle 0 5)
      ∧ working toggling = true ∧ operationOf .received (.toggle 0 5) = some (.toggle 5 .flip)
      ∧ affectedSet toggling (.toggle 5 .flip) ≠ 0 ∧ toggling.ops.list.length < 8
      ∧ affectedSet (hearing (.toggle 0 5) run) (.toggle 5 .flip) = 0 :=
  ⟨hearing_accepted _ _ ⟨rfl, rfl⟩ (by decide +kernel) (by decide +kernel),
    fun _ => by decide +kernel, by decide, by decide, by decide +kernel, by decide, by decide +kernel⟩
theorem witness_OperationFramesFull :
    let s := { toggling with ops := { list := List.replicate 8 (entry (.toggle 5 .flip) 1 .waiting), driving := none } }
    8 ≤ s.ops.list.length ∧ affectedSet s (.toggle 5 .flip) ≠ 0 := by decide +kernel
/-- A RECALL of an unlisted station in SAFE, and a duplicate's CAPTURE. -/
theorem witness_OperationFramesUnlisted :
    let s := { hearing (.recall 12 127) safe with view := safe.view }
    let d := { hearing (.capture 12 128) run with start := { run.start with station := 9 } }
    Accepted s .received (wireFrame 1 9 [12, 127]) (.recall 12 127) ∧ working s = false
      ∧ s.view.roster[(9 : Station)] = none ∧ (127 : Byte).toNat < 128
      ∧ Accepted d .received (wireFrame 2 9 [12, 128]) (.capture 12 128) ∧ 128 ≤ (128 : Byte).toNat
      ∧ operationOf .received (.capture 12 128) = none
      ∧ d.start.station = headerOrigin (wireFrame 2 9 [12, 128]).header :=
  ⟨⟨rfl, by decide +kernel, rfl, rfl, .inl ⟨rfl, rfl, by decide +kernel⟩⟩, by decide, by decide, by decide,
    ⟨rfl, by decide +kernel, rfl, rfl, .inl ⟨rfl, rfl, by decide +kernel⟩⟩, by decide, by decide, by decide +kernel⟩
/-- R198: in SAFE the view takes the RECALL's level and slot, and no operation is listed. -/
theorem test_recall_in_safe :
    let t := after .recallFrame { hearing (.recall 12 7) (withChan 47 moved safe) with view := safe.view }
    t.view.lastRecall = some (12, 7) ∧ t.ops.list = [] ∧ t.view.roster[(9 : Station)].isSome = true := by
  decide +kernel
/-- R26: the TOGGLE stands in the list with its OPEN record, of station 9. -/
theorem test_toggle_frame :
    let t := after .toggleFrame toggling
    t.ops.list.map (fun e => (e.body, e.origin, e.affected, e.record))
        = [(.toggle 5 .flip, 9, 0x800000000000, some 0)]
      ∧ t.link.line = .idle := by decide +kernel
/-- R28: a CANCEL prunes the waiting TOGGLE it covers; a HANDSET from station 9 becomes a MIRROR. -/
theorem test_cancel_frame :
    let s := hearing (.cancel 0xFF) (withChan 47 moved { run with
      ops := { list := [entry (.toggle 5 .on) 0x800000000000 .waiting], driving := none } })
    (after .cancelFrame s).ops.list.map (fun e => e.body) = [.cancel .console] := by decide +kernel
theorem test_handset_frame :
    (after .handsetFrame (hearing (.handset true 5) (withChan 47 moved run))).ops.list.map (fun e => e.body)
      = [.mirror 5 true] := by decide +kernel
/-- R180, R181: the view takes level and slot even where the slot concerns no channel. -/
theorem test_recall_frame : (after .recallFrame (hearing (.recall 12 7) run)).view.lastRecall = some (12, 7)
    ∧ (after .recallFrame (hearing (.recall 12 7) run)).ops.list = [] := by decide +kernel
theorem test_capture_frame : (after .captureFrame (hearing (.capture 12 0x80) run)).view.lastRecall = none
    ∧ (after .captureFrame (hearing (.capture 12 7) run)).view.level = 12 := by decide +kernel
theorem witness_ViewFrames :
    Accepted (hearing (.tutti true) run) .received (wireFrame 5 9 [1]) (.tutti true)
      ∧ Accepted (hearing (.stage 3 63) run) .received (wireFrame 6 9 [0xFF]) (.stage 3 63)
      ∧ Accepted (hearing (.setter false) shoe) .received (wireFrame 7 9 [0]) (.setter false)
      ∧ Accepted (hearing (.announce true false false 255) run) .received (wireFrame 9 9 [1, 255])
          (.announce true false false 255)
      ∧ (59 : Fin 60).val = min 59 (63 : Fin 64).val
      ∧ FromListedStation (hearing (.tutti true) run) .received (wireFrame 5 9 [1]) (.tutti true) :=
  ⟨hearing_accepted _ _ ⟨rfl, rfl⟩ (by decide +kernel) (by decide +kernel),
    hearing_accepted _ _ ⟨rfl, rfl⟩ (by decide +kernel) (by decide +kernel),
    hearing_accepted _ _ ⟨rfl, rfl⟩ (by decide +kernel) (by decide +kernel),
    hearing_accepted _ _ ⟨rfl, rfl⟩ (by decide +kernel) (by decide +kernel), by decide,
    fun _ => by decide +kernel⟩
theorem witness_ViewFramesUnlisted :
    let s := { hearing (.tutti true) run with view := run.view }
    Accepted s .received (wireFrame 5 9 [1]) (.tutti true) ∧ s.view.roster[(9 : Station)] = none :=
  ⟨⟨rfl, by decide +kernel, rfl, rfl, .inl ⟨rfl, rfl, by decide +kernel⟩⟩, by decide⟩
/-- R184, R118: tutti on brings in the tutti members at once. -/
theorem test_tutti_frame :
    let t := after .tuttiFrame (hearing (.tutti true) (withChan 47 { moved with tutti := true } run))
    t.view.tuttiOrigin = some 9 ∧ t.relay.shift = some 0x800000000000 := by decide +kernel
/-- R185: a stage of 63 is taken as 59. -/
theorem test_stage_frame : (after .stageFrame (hearing (.stage 3 63) run)).view.stage = 59
    ∧ (after .stageFrame (hearing (.stage 3 63) run)).view.program = 3 := by decide +kernel
theorem test_setter_frame : (after .setterFrame (hearing (.setter true) run)).view.setter = true := by
  decide +kernel
theorem witness_LevelFrame :
    Accepted (hearing (.level 255) levelArmed) .received (wireFrame 8 9 [255]) (.level 255)
      ∧ levelArmed.params.levelRole = true ∧ working levelArmed = true
      ∧ FromListedStation (hearing (.level 255) levelArmed) .received (wireFrame 8 9 [255]) (.level 255) :=
  ⟨hearing_accepted _ _ ⟨rfl, rfl⟩ (by decide +kernel) (by decide +kernel), by decide, by decide,
    fun _ => by decide +kernel⟩
theorem test_level_frame : (after .levelFrame (hearing (.level 200) run)).view.level = 200 := by decide +kernel
/-- A shoe station that last originated the tutti hears a fresh ANNOUNCE of the listed station 9. -/
def newcomer : State :=
  hearing (.announce true false true 77) { shoe with view := { shoe.view with tuttiOrigin := some 0 } }
theorem witness_DeliveryListsAndGreets :
    Accepted newcomer .received (wireFrame 9 9 [5, 77]) (.announce true false true 77)
      ∧ headerOrigin (wireFrame 9 9 [5, 77]).header ≠ newcomer.start.station
      ∧ isFresh (.announce true false true 77) = true ∧ newcomer.view.mode = .run
      ∧ newcomer.view.roster[(9 : Station)].isSome = true
      ∧ coalesce newcomer.link.txq .announce = some [.announce]
      ∧ coalesce [.announce] (.stage newcomer.cresc.program newcomer.cresc.stage) = some [.announce, .stage 0 0]
      ∧ newcomer.view.tuttiOrigin = some newcomer.start.station
      ∧ coalesce [.announce, .stage 0 0] .tuttiResend = some [.announce, .stage 0 0, .tuttiResend] :=
  ⟨hearing_accepted _ _ ⟨rfl, rfl⟩ (by decide +kernel) (by decide +kernel), by decide +kernel, by decide,
    by decide, by decide +kernel, by decide, by decide, by decide, by decide⟩
theorem witness_Unlisted :
    (hearing (.level 1) { listen with start := { listen.start with station := 1 } }).view.mode ≠ .run
      ∧ run.view.roster[(9 : Station)] = none := by decide +kernel
/-- R188, R192: the level byte of a fresh ANNOUNCE is not taken, and the newcomer draws the three frames. -/
theorem test_announce_frame : (after .announceFrame newcomer).view.level = 0
    ∧ (after .announceFrame newcomer).link.txq = [.announce, .stage 0 0, .tuttiResend]
    ∧ (after .announceFrame newcomer).cresc.interval = some 0 := by decide +kernel
/-- A station with number 9 hears a frame of another station 9. -/
def duplicated (s : State) : State := hearing (.level 8) { s with start := { s.start with station := 9 } }
theorem witness_Duplicate :
    Accepted (duplicated run) .received (wireFrame 8 9 [8]) (.level 8)
      ∧ headerOrigin (wireFrame 8 9 [8]).header = (duplicated run).start.station
      ∧ (duplicated run).view.duplicateSeen = false ∧ (duplicated run).view.mode = .run
      ∧ (duplicated safe).view.mode = .safe ∧ (duplicated safe).view.duplicateSeen = false
      ∧ (duplicated listen).view.duplicateSeen = true :=
  ⟨hearing_accepted _ _ ⟨rfl, rfl⟩ (by decide +kernel) (by decide +kernel), by decide +kernel, by decide +kernel,
    by decide +kernel, by decide +kernel, by decide +kernel, by decide +kernel⟩
theorem witness_DuplicateAgain :
    let s := duplicated { run with view := { run.view with duplicateSeen := true } }
    Accepted s .received (wireFrame 8 9 [8]) (.level 8) ∧ s.view.duplicateSeen = true ∧ s.view.mode = .run :=
  ⟨hearing_accepted _ _ ⟨rfl, rfl⟩ (by decide +kernel) (by decide +kernel), rfl, rfl⟩
/-- R195: a second frame of the duplicate is no second record. -/
theorem test_duplicate_once :
    (after .levelFrame (duplicated (after .levelFrame (duplicated run)))).journal.number = 1 := by decide +kernel
/-- R177, R195, R210: the frame is taken, then the station enters LISTEN and journals the header 89h. -/
theorem test_duplicate :
    let t := after .levelFrame (duplicated run)
    t.view.mode = .listen ∧ t.view.level = 8
      ∧ (t.journal.records[0]).map (fun r => r.subject) = some (.fault .duplicateId 0 0x89 0 0) := by
  decide +kernel

/-! ### Witnesses: the service line -/

/-- The port of a station. -/
def withPort (p : Port) (s : State) : State := { s with port := p }
theorem witness_Port :
    let p := fun x => (withPort { Port.reset with state := x } run).port.state
    p .listening = .listening ∧ p .assembling = .assembling ∧ p .executing = .executing
      ∧ p .replying = .replying ∧ p .discarding = .discarding
      ∧ judgeCommand [0x01, 0x00] = none ∧ judgeCommand [] = none := by decide +kernel
theorem witness_PortJudges :
    let s := withPort { Port.reset with state := .assembling, assembly := withSum [0x04, 31], gap := some 50 } run
    s.port.state = .assembling ∧ (ServiceCmd.journal 31).legal = true ∧ s.port.bad = false
      ∧ s.port.overlong = false ∧ s.port.assembly = withSum (commandBody (.journal 31)) := by decide +kernel
/-- R226: the 73rd byte is not stored and marks the command overlong. -/
theorem test_byte_arrival :
    let s := withPort { Port.reset with state := .assembling, assembly := List.replicate 72 0 } run
    (after (.serviceByteArrival 7 true) s).port.overlong = true
      ∧ (after (.serviceByteArrival 7 true) s).port.assembly.length = 72
      ∧ (after (.serviceByteArrival 7 false) run).port.bad = true := by decide +kernel
/-- R227, R229: a command whose bytes do not sum to 00h is answered BADCMD: 02h FEh. -/
theorem test_gap_expiry :
    (after .gapTimerExpiry (withPort { Port.reset with state := .assembling, assembly := [1, 0] } run)).port.reply
      = [0x02, 0xFE] := by decide +kernel
/-- R226, R229: bytes that arrived during the reply are discarded until a gap of 50 ms. -/
theorem test_reply_end :
    let s := fun g => withPort { Port.reset with state := .replying, arrived := true, gap := some g } run
    (after .replyEnd (s 49)).port.state = .discarding ∧ (after .replyEnd (s 50)).port.state = .listening := by
  decide
theorem witness_Reports : PortFree [0x01] run ∧ PortFree [0x02, 5] run ∧ PortFree [0x03] run
    ∧ PortFree [0x04, 31] run ∧ (5 : Byte).toNat = (5 : Fin 6).val ∧ 6 ≤ (6 : Byte).toNat
    ∧ (0 : Byte).toNat < work.journal.held ∧ ((0 : Fin 32).val + 1 + (0 : Byte).toNat) % 32 = work.journal.next.val
    ∧ work.journal.records[(0 : Fin 32)] = some openCancel ∧ work.journal.held ≤ (1 : Byte).toNat :=
  ⟨rfl, rfl, rfl, rfl, by decide, by decide, by decide, by decide, by decide, by decide⟩
/-- R228: an IDENT reply of station 0: 00h, 5Ch 30h 01h 00h, and the sum byte 73h. -/
theorem test_ident : (after .ident run).port.reply = [0x00, 0x5C, 0x30, 0x01, 0x00, 0x73] := by decide +kernel
/-- R230: a STATUS reply of group 1 after a reset: level 0, last recall FFh FFh, no tutti origin FFh, fresh 01h, no
role FFh FFh. -/
theorem test_status : (after (.status 1) run).port.reply.take 12
    = [0, 0, 0xFF, 0xFF, 0, 0, 0xFF, 0, 0, 1, 0xFF, 0xFF] := by decide +kernel
theorem test_channels : (after .channels run).port.reply.length = 290
    ∧ (after .channels State.reset).port.reply = [0x01, 0xFF] := by decide +kernel
/-- R211: JOURNAL 1 where one record is held: kind FFh, zero elsewhere. -/
theorem test_journal : (after (.journal 1) work).port.reply.take 4 = [0, 0, 0, 0xFF]
    ∧ ((after (.journal 0) work).port.reply.take 6) = [0, 0, 0, 2, 0, 3] := by decide +kernel
theorem witness_StoreReads :
    PortFree [0x05, 255, 127] run ∧ (127 : Byte).toNat < 128 ∧ run.view.mode ≠ .starting ∧ run.store.fetch = none
    ∧ PortFree ([0x07] ++ wordBytes 0x3C0 ++ [64]) run ∧ 1 ≤ (64 : Byte).toNat ∧ (64 : Byte).toNat ≤ 64
    ∧ (0x3C0 : Word).toNat + (64 : Byte).toNat ≤ 0x400 ∧ (fetching .idle (.imageRead 0 1)).store.fetch ≠ none :=
  ⟨rfl, by decide, by decide, rfl, rfl, by decide, by decide, by decide, by decide⟩
theorem witness_StoreWrites :
    PortFree ([0x06, 255, 127] ++ [1, 2, 3, 4, 5, 6, 7, 8]) run
    ∧ (enterQueue run.store.queue (.slot 255 127) [1, 2, 3, 4, 5, 6, 7, 8] none).isSome = true
    ∧ enterQueue fullWrites (.slot 255 127) [1, 2, 3, 4, 5, 6, 7, 8] none = none ∧ fullWrites.length ≤ 8 :=
  ⟨rfl, by decide +kernel, by decide +kernel, by decide⟩
/-- The last byte of the image, the last two bytes of page 0, and a range over its end; seven entries leave room for
one page of two. -/
theorem witness_ImageWrites :
    PortFree ([0x08] ++ wordBytes 0xFF ++ [byteOf 2] ++ [1, 2]) run
    ∧ ((0x3FF : Word).toNat = (3 : Fin 4).val * 256 + (255 : Fin 256).val ∧ (255 : Fin 256).val + [1].length ≤ 256)
    ∧ ((0xFE : Word).toNat = (0 : Fin 4).val * 256 + (254 : Fin 256).val ∧ (254 : Fin 256).val + [1, 2].length ≤ 256)
    ∧ ((0xFF : Word).toNat = (0 : Fin 4).val * 256 + (255 : Fin 256).val ∧ (1 : Fin 4).val = (0 : Fin 4).val + 1
      ∧ 256 < (255 : Fin 256).val + [1, 2].length)
    ∧ (∃ q, enterQueue (fullWrites.take 7) (.image 0 255 1) [1] none = some q
        ∧ enterQueue q (.image 1 0 1) [2] none = none) :=
  ⟨rfl, by decide, by decide, by decide, _, rfl, by decide +kernel⟩
theorem witness_StoreCommandsOutOfRange :
    (PortFree [0x05, 0, 128] run ∧ 128 ≤ (128 : Byte).toNat) ∧ (PortFree [0x09, 0, 2] run ∧ 2 ≤ (2 : Byte).toNat)
    ∧ (PortFree ([0x07] ++ wordBytes 0x3C1 ++ [64]) run ∧ 0x400 < (0x3C1 : Word).toNat + (64 : Byte).toNat)
    ∧ (PortFree ([0x06, 0, 128] ++ [1]) run ∧ [1].length ≠ 8)
    ∧ (PortFree ([0x08] ++ wordBytes 0x3FF ++ [byteOf 2] ++ [1, 2]) run
      ∧ 0x400 < (0x3FF : Word).toNat + [1, 2].length) :=
  ⟨⟨rfl, by decide⟩, ⟨rfl, by decide⟩, ⟨rfl, by decide⟩, ⟨rfl, by decide⟩, rfl, by decide⟩
theorem witness_ServiceLock : PortFree [0x09, 255, 1] levelArmed ∧ (1 : Byte) = boolByte true
    ∧ working levelArmed = true ∧ levelArmed.params.levelRole = true ∧ run.params.levelRole = false
    ∧ safe.view.mode = .safe ∧ (31 : Fin 32).val = (255 : Byte).toNat / 8 :=
  ⟨rfl, by decide, by decide, by decide, by decide, by decide, by decide⟩
/-- R85, R232: a SLOT READ with an IDLE memory is served when it is made; while it is in flight another is BUSY. -/
theorem test_slot_read : (after (.slotRead 0 5) run).port.state = .executing
    ∧ (after (.slotRead 0 5) run).store.fetch = some { req := .slotRead 0 5, result := some (List.replicate 8 0xFF) }
    ∧ (after (.slotRead 0 5) (withPort Port.reset (after (.slotRead 0 4) run))).port.reply = [0x01, 0xFF] := by
  decide +kernel
theorem test_image_read :
    (after (.imageRead 0x3FF 1) run).store.fetch = some { req := .imageRead 0x3FF 1, result := some [0xFF] } := by
  decide +kernel
theorem test_slot_write : (after (.slotWrite 0 5 [1, 2, 3, 4, 5, 6, 7, 8]) run).store.queue.map (fun e => e.target)
    = [.slot 0 5] ∧ (after (.slotWrite 0 128 [1, 2, 3, 4, 5, 6, 7, 8]) run).port.reply = [0x02, 0xFE] := by
  decide +kernel
/-- R228: a range that ends past 400h is BADCMD; R80: two pages with one place left are BUSY. -/
theorem test_image_write_refused :
    (after (.imageWrite 0x3FF [1, 2]) run).port.reply = [0x02, 0xFE]
    ∧ (after (.imageWrite 0xFF [1, 2]) { run with store := { run.store with queue := fullWrites.take 7 } }).port.reply
      = [0x01, 0xFF] := by decide +kernel
/-- R79, R233: a range over the end of page 0 is entered as two entries. -/
theorem test_image_write : (after (.imageWrite 0xFF [1, 2]) run).store.queue.map (fun e => (e.target, e.data))
    = [(.image 0 255 1, [1]), (.image 1 0 1, [2])] := by decide +kernel
theorem test_service_lock : locked (after (.serviceLock 255 1) levelArmed).store.lockCopy 255 = true
    ∧ (after (.serviceLock 255 1) run).port.reply = [0x03, 0xFD] := by decide +kernel
theorem witness_Restart : PortFree [0x0A] run ∧ run.view.mode ≠ .starting ∧ run.store.queue = []
    ∧ run.store.calMark = false ∧ run.store.lockMarks = 0 ∧ (writing true).store.queue ≠ []
    ∧ work.journal.records[(0 : Fin 32)] = some openCancel ∧ openCancel.state = .opened
    ∧ (∃ d, work.ops.driving = some d ∧ d.record = some 0) :=
  ⟨rfl, by decide, rfl, rfl, rfl, by decide, rfl, rfl, _, rfl, rfl⟩
/-- R207, R234: a restart closes the record DROPPED, and its OK reply 00h 00h goes on. -/
theorem test_restart :
    let t := after .restart { work with store := { Store.reset with mem := .idle } }
    t.view.mode = .starting ∧ t.port.reply = [0, 0]
      ∧ (t.journal.records[0]).map (fun r => r.state) = some .dropped
      ∧ (after .restart (writing true)).port.reply = [0x01, 0xFF] := by decide +kernel

/-! ### The clock -/

/-- R73, R220: the memory is polled at the reset, and after that at each tick alone. -/
theorem test_load_poll :
    nextInternal State.reset = some .loadEvent
    ∧ nextInternal { State.reset with start := { State.reset.start with atReset := false } } = none
    ∧ (startTick { State.reset with start := { State.reset.start with atReset := false } }).pending = [.loadEvent] := by
  decide +kernel
/-- The tick is a step of its own after 1000 µs: R110's frame, queued in the last of them, restarts the interval
before the tick looks at it. -/
theorem test_tick :
    let s := { run with time := { run.time with us := 999 }, cresc := { run.cresc with interval := some 19 } }
    (clockStep s).time.us = 1000 ∧ (clockStep s).journal.timeTag = 0 ∧ (clockStep s).pending = []
      ∧ (clockStep (clockStep s)).journal.timeTag = 1
      ∧ .intervalTimerExpiry ∈ (clockStep (clockStep s)).pending
      ∧ .intervalTimerExpiry ∉ (clockStep { clockStep s with cresc := { s.cresc with interval := some 0 } }).pending := by
  decide +kernel
/-- R236: at the end of its second SEQ END goes dark from dark. -/
theorem test_sequence_end :
    let s := timersTick { run with
      pistons := { run.pistons with seqEnd := some 999 }
      flashes := { run.flashes with seqEnd := some { lit := false, ms := 249 } } }
    s.pending = [.sequenceEndTimerExpiry, .flashTimerExpiry .seqEnd]
      ∧ (after (.flashTimerExpiry .seqEnd) (after .sequenceEndTimerExpiry s)).flashes.seqEnd = none := by decide +kernel

end Sys2Proof.Tests
end

section
/-! PROOF. The sound: what the law of the sound looks at, which commands leave that alone, and how the few that
do not keep the law (R6, R16–R20). -/

namespace Sys2Proof.Machine

/-! ### Channel records and composed sets -/

/-- The record written by `setChannel`. -/
@[simp] theorem setChannel_at (c : Chan) (x : Channel) (s : State) : (setChannel c x s).channels[c.val] = x :=
  Vector.getElem_set_self _

/-- Every other record stays as it was. -/
theorem setChannel_other {c d : Chan} (h : d ≠ c) (x : Channel) (s : State) :
    (setChannel c x s).channels[d.val] = s.channels[d.val] :=
  Vector.getElem_set_ne c.isLt d.isLt (fun e => h (Fin.ext e.symm))

/-- Equal sets of channels have equal members. -/
theorem chanSet_congr {f g : Chan → Bool} (h : ∀ c, f c = g c) : chanSet f = chanSet g := by
  rw [funext h]

/-- The speaking set looks at channels, image values and view alone (R16). -/
theorem composedSet_congr {s t : State} (hc : t.channels = s.channels) (hp : t.params = s.params)
    (hv : t.view = s.view) : composedSet t = composedSet s :=
  chanSet_congr (fun c => by unfold speaks crescAdded; rw [hc, hp, hv])

/-- Outside SAFE a channel speaks by its registered state and what is added to it (R16). -/
theorem speaks_outsideSafe {s : State} (h : s.view.mode ≠ .safe) (c : Chan) :
    speaks s c = (s.channels[c].registered || crescAdded s.params s.view.program s.view.stage c
      || (s.view.tutti && s.channels[c].tutti)) := by
  unfold speaks
  split
  · contradiction
  · rfl

/-- In SAFE a channel speaks by its contact (R16). -/
theorem speaks_safe {s : State} (h : s.view.mode = .safe) (c : Chan) : speaks s c = s.channels[c].contact := by
  unfold speaks; rw [h]

/-- At stage 0 no channel is crescendo-added (R114). -/
theorem crescAdded_stageZero (p : Params) (program : Fin 4) (c : Chan) : crescAdded p program 0 c = false := by
  unfold crescAdded; simp

/-- With nothing added a channel speaks, outside SAFE, as it is registered (R16, R120). -/
theorem speaks_registered {s : State} (h : s.view.mode ≠ .safe) (ht : s.view.tutti = false)
    (hs : s.view.stage = 0) (c : Chan) : speaks s c = s.channels[c].registered := by
  rw [speaks_outsideSafe h, hs, ht, crescAdded_stageZero]; simp

/-! ### The relay port -/

/-- A composed set becomes the speaking set (R17). -/
@[simp] theorem Relay.compose_speaking (r : Relay) (x : ChanSet) : (r.compose x).speaking = x := by
  unfold Relay.compose
  split
  · rename_i h; exact h.symm
  · split <;> rfl

/-- The relay port has sent the speaking set or is going to (R18, R19). -/
def Relay.CatchesUp (r : Relay) : Prop :=
  (∀ x, r.shift = some x → r.speaking = x ∨ r.further = true)
    ∧ (r.shift = none → r.lastLatched = some r.speaking)

/-- The law of the relay, said of the relay alone. -/
theorem relayCatchesUp_iff (s : State) :
    RelayCatchesUp s ↔ (s.view.mode ≠ .starting → s.relay.CatchesUp) := by
  unfold RelayCatchesUp Relay.CatchesUp
  cases s.relay.shift <;> simp

/-- A composed set is sent too (R17–R19). -/
theorem Relay.CatchesUp.compose {r : Relay} (h : r.CatchesUp) (x : ChanSet) : (r.compose x).CatchesUp := by
  unfold Relay.compose
  split
  · exact h
  · cases hs : r.shift <;> simp [CatchesUp]

/-- The end of a shift leaves no set unsent (R18, R19). -/
theorem Relay.CatchesUp.shiftEnd {r : Relay} (h : r.CatchesUp) : r.shiftEnd.CatchesUp := by
  unfold Relay.shiftEnd
  cases hs : r.shift with
  | none => exact h
  | some x =>
    by_cases hx : r.speaking = x
    · simp [CatchesUp, hx]
    · have hf : r.further = true := (h.1 x hs).resolve_left hx
      simp [CatchesUp, hx, hf]

/-- The end of a shift leaves the speaking set (R19). -/
@[simp] theorem Relay.shiftEnd_speaking (r : Relay) : r.shiftEnd.speaking = r.speaking := by
  unfold Relay.shiftEnd; split <;> rfl

/-! ### What the law of the sound looks at -/

/-- Two records agree in what the sound looks at. -/
structure Channel.SameStop (x y : Channel) : Prop where
  type : y.type = x.type
  tutti : y.tutti = x.tutti
  contact : y.contact = x.contact
  registered : y.registered = x.registered

/-- Every channel PLAIN, while the law asks for it, and PLAIN channels registered as their contacts: kept where types,
start and mode stay and each PLAIN channel still follows. -/
theorem PlainFollowsContact.of_types {s t : State} (h : PlainFollowsContact s)
    (ht : ∀ c : Chan, t.channels[c].type = s.channels[c].type)
    (hf : ∀ c : Chan, t.channels[c].type = .plain → t.channels[c].registered = t.channels[c].contact)
    (hp : t.start.poll.isSome = s.start.poll.isSome) (hs : t.start.safe = s.start.safe)
    (hm : t.view.mode = s.view.mode) : PlainFollowsContact t :=
  ⟨hf, fun hq c => (ht c).trans (h.2.1 (by rwa [hp, hs] at hq) c), fun hq => hs.trans (h.2.2 (hm.symm.trans hq))⟩

/-- One channel's record is changed, and follows its contact where it is PLAIN. -/
theorem PlainFollowsContact.setChannel {s : State} (h : PlainFollowsContact s) (c : Chan) (x : Channel)
    (ht : x.type = s.channels[c].type) (hf : x.type = .plain → x.registered = x.contact) :
    PlainFollowsContact (setChannel c x s) := by
  refine h.of_types (fun d => ?_) (fun d => ?_) rfl rfl rfl
  · by_cases hd : d = c
    · subst hd; simpa using ht
    · simp only [Fin.getElem_fin, setChannel_other hd]
  · by_cases hd : d = c
    · subst hd; simpa using hf
    · simpa only [Fin.getElem_fin, setChannel_other hd] using h.1 d

/-- What the law of the sound looks at is the same in both states, and a line that is OFF in STARTING stays OFF. -/
structure SoundKept (s t : State) : Prop where
  stop : ∀ c : Chan, s.channels[c].SameStop t.channels[c]
  speaking : t.relay.speaking = s.relay.speaking
  shift : t.relay.shift = s.relay.shift
  further : t.relay.further = s.relay.further
  lastLatched : t.relay.lastLatched = s.relay.lastLatched
  params : t.params = s.params
  poll : t.start.poll.isSome = s.start.poll.isSome
  safe : t.start.safe = s.start.safe
  mode : t.view.mode = s.view.mode
  tutti : t.view.tutti = s.view.tutti
  program : t.view.program = s.view.program
  stage : t.view.stage = s.view.stage
  line : s.view.mode = .starting → s.link.line = .off → t.link.line = .off

theorem Channel.SameStop.refl (x : Channel) : x.SameStop x := ⟨rfl, rfl, rfl, rfl⟩

theorem SoundKept.refl (s : State) : SoundKept s s :=
  ⟨fun _ => .refl _, rfl, rfl, rfl, rfl, rfl, rfl, rfl, rfl, rfl, rfl, rfl, fun _ h => h⟩

theorem SoundKept.trans {s t u : State} (h : SoundKept s t) (k : SoundKept t u) : SoundKept s u where
  stop c := ⟨(k.stop c).type.trans (h.stop c).type, (k.stop c).tutti.trans (h.stop c).tutti,
    (k.stop c).contact.trans (h.stop c).contact, (k.stop c).registered.trans (h.stop c).registered⟩
  speaking := k.speaking.trans h.speaking
  shift := k.shift.trans h.shift
  further := k.further.trans h.further
  lastLatched := k.lastLatched.trans h.lastLatched
  params := k.params.trans h.params
  poll := k.poll.trans h.poll
  safe := k.safe.trans h.safe
  mode := k.mode.trans h.mode
  tutti := k.tutti.trans h.tutti
  program := k.program.trans h.program
  stage := k.stage.trans h.stage
  line hm hl := k.line (h.mode.trans hm) (h.line hm hl)

/-- A change outside channels, relay, image values, start and view. -/
theorem SoundKept.outside {s : State} {pending : List Instr} {pins : Pins} {memory : Memory} {ops : Sequencer}
    {drive : DriveSched} {store : Store} {cresc : Cresc} {pistons : PistonUnit} {link : Link} {journal : Journal}
    {port : Port} {flashes : Flashes} {time : TimeBase} {torn : Nat}
    (hl : s.view.mode = .starting → s.link.line = .off → link.line = .off) :
    SoundKept s { s with
      pending := pending, pins := pins, memory := memory, ops := ops, drive := drive, store := store
      cresc := cresc, pistons := pistons, link := link, journal := journal, port := port, flashes := flashes
      time := time, torn := torn } :=
  ⟨fun _ => .refl _, rfl, rfl, rfl, rfl, rfl, rfl, rfl, rfl, rfl, rfl, rfl, hl⟩

/-- A change of counts, fault flags and drive states alone. -/
theorem SoundKept.withChannels {s : State} {v : Vector Channel 48} (h : ∀ c : Chan, s.channels[c].SameStop v[c]) :
    SoundKept s { s with channels := v } :=
  ⟨h, rfl, rfl, rfl, rfl, rfl, rfl, rfl, rfl, rfl, rfl, rfl, fun _ hl => hl⟩

/-- A change of one channel's count, fault flag or drive state. -/
theorem SoundKept.setChannel {s : State} {c : Chan} {x : Channel} (h : s.channels[c].SameStop x) :
    SoundKept s (setChannel c x s) := by
  refine .withChannels (fun d => ?_)
  by_cases hd : d = c
  · subst hd; simpa using h
  · simpa only [Fin.getElem_fin, ← setChannel_channels, setChannel_other hd] using .refl _

/-- What is kept speaks alike. -/
theorem SoundKept.speaks {s t : State} (k : SoundKept s t) (c : Chan) : speaks t c = speaks s c := by
  unfold Machine.speaks
  rw [k.mode, (k.stop c).contact, (k.stop c).registered, (k.stop c).tutti, k.params, k.program, k.stage, k.tutti]

theorem StartingUnheard.of_kept {s t : State} (h : StartingUnheard s) (k : SoundKept s t) : StartingUnheard t := by
  intro hm
  obtain ⟨hl, ht, hs⟩ := h (k.mode.symm.trans hm)
  exact ⟨k.line (k.mode.symm.trans hm) hl, k.tutti.trans ht, k.stage.trans hs⟩

theorem PlainFollowsContact.of_kept {s t : State} (h : PlainFollowsContact s) (k : SoundKept s t) :
    PlainFollowsContact t := by
  refine h.of_types (fun c => (k.stop c).type) (fun c hc => ?_) k.poll k.safe k.mode
  rw [(k.stop c).registered, (k.stop c).contact]
  exact h.1 c ((k.stop c).type.symm.trans hc)

/-- The channels still speak as they did, and the relay port holds what it held. -/
theorem SoundLaw.of_speaks {s t : State} (h : SoundLaw s) (hp : PlainFollowsContact t) (hu : StartingUnheard t)
    (hm : t.view.mode ≠ .starting → s.view.mode ≠ .starting ∧ ∀ c, speaks t c = speaks s c)
    (hsp : t.relay.speaking = s.relay.speaking) (hsh : t.relay.shift = s.relay.shift)
    (hfu : t.relay.further = s.relay.further) (hla : t.relay.lastLatched = s.relay.lastLatched) : SoundLaw t := by
  obtain ⟨_, _, hc, hr⟩ := h
  refine ⟨hp, hu, fun ht => ?_, (relayCatchesUp_iff t).2 (fun ht => ?_)⟩
  · obtain ⟨hs, he⟩ := hm ht
    rw [hsp, hc hs]; exact (chanSet_congr he).symm
  · obtain ⟨hs, -⟩ := hm ht
    have := (relayCatchesUp_iff s).1 hr hs
    unfold Relay.CatchesUp at this ⊢
    rwa [hsp, hsh, hfu, hla]

/-- The law stands where what it looks at is kept. -/
theorem SoundLaw.of_kept {s t : State} (h : SoundLaw s) (k : SoundKept s t) : SoundLaw t :=
  h.of_speaks (h.1.of_kept k) (h.2.1.of_kept k) (fun ht => ⟨k.mode ▸ ht, k.speaks⟩) k.speaking k.shift k.further
    k.lastLatched

/-- The law stands where the speaking set is recomposed (R17). -/
theorem SoundLaw.of_recomposed {s t : State} (h : SoundLaw s) (hp : PlainFollowsContact t) (hu : StartingUnheard t)
    (hm : t.view.mode ≠ .starting → s.view.mode ≠ .starting)
    (hr : t.relay = s.relay.compose (composedSet t)) : SoundLaw t := by
  refine ⟨hp, hu, fun _ => by rw [hr]; simp, (relayCatchesUp_iff t).2 (fun ht => ?_)⟩
  rw [hr]
  exact ((relayCatchesUp_iff s).1 h.2.2.2 (hm ht)).compose _

end Sys2Proof.Machine
end

section
/-! PROOF. Operations and commands that keep what the law of the sound looks at. -/

namespace Sys2Proof.Machine

variable {s : State}

/-! ### Shared operations -/

/-- Outside RUN a hand-over does nothing (R172). -/
theorem handOver_outsideRun (f : TxFrame) (h : s.view.mode ≠ .run) : handOver f s = s := if_neg h

/-- The withdrawal of a hold leaves the line state (R165). -/
@[simp] theorem Link.withdrawHold_line (l : Link) : l.withdrawHold.line = l.line := by
  unfold Link.withdrawHold; split <;> rfl

/-- A write that is entered changes the store and the journal (R80, R42). -/
theorem enterWrite_frame {t : Target} {d : List Byte} {k : Option (Fin 32)} {s' : State}
    (h : enterWrite t d k s = some s') : s' = { s with store := s'.store, journal := s'.journal } := by
  unfold enterWrite at h
  split at h <;> cases h
  rfl

/-- Entering several writes changes the store and the journal too. -/
theorem enterAll_frame {ts : List (Target × List Byte)} {s' : State} (h : enterAll ts s = some s') :
    s' = { s with store := s'.store, journal := s'.journal } := by
  induction ts generalizing s with
  | nil => cases h; rfl
  | cons td ts ih =>
    unfold enterAll at h
    split at h
    · cases h
    · rename_i u hu
      rw [ih h, enterWrite_frame hu]

theorem enterImage_frame {offset : Nat} {data : List Byte} {s' : State} (h : enterImage offset data s = some s') :
    s' = { s with store := s'.store, journal := s'.journal } := by
  unfold enterImage at h
  dsimp only at h
  split at h
  · exact enterAll_frame h
  · cases h

theorem SoundKept.handOver (f : TxFrame) : SoundKept s (handOver f s) := by
  by_cases h : s.view.mode = .run
  · rw [handOver_frame]; exact .outside (fun hm => by rw [h] at hm; cases hm)
  · rw [handOver_outsideRun f h]; exact .refl s

theorem SoundKept.originationCheck : SoundKept s (originationCheck s) := by
  unfold Machine.originationCheck
  split
  · rename_i h
    rw [sendStage_frame]; exact .outside (fun hm => by rw [h.1] at hm; cases hm)
  · exact .refl s

theorem SoundKept.takeSample (r : Fin 1024) : SoundKept s (takeSample r s) := by
  unfold Machine.takeSample
  dsimp only
  split
  · exact .outside (fun _ h => h)
  · split
    · unfold stageUpdate
      refine SoundKept.trans ?_ .originationCheck
      split <;> exact .outside (fun _ h => h)
    · exact .outside (fun _ h => h)

theorem SoundKept.endInterval : SoundKept s (endInterval s) := by
  unfold Machine.endInterval
  split
  · rename_i h
    rw [sendStage_frame]; exact .outside (fun hm => by rw [h.1] at hm; cases hm)
  · exact .outside (fun _ h => h)

theorem SoundKept.countAttempt (cause : AttemptCause) : SoundKept s (countAttempt cause s) := by
  unfold Machine.countAttempt
  split
  · exact .refl s
  · split <;> exact .outside (fun _ h => h)

/-- A capture that is taken up leaves the line state. -/
theorem takeCapture_line (e : OpEntry) (l : Fin 256) (k : Fin 128) :
    (takeCapture e l k s).link.line = s.link.line := by
  unfold takeCapture
  split
  · rename_i s' h
    rw [enterWrite_frame h]; simp
  · rfl

theorem SoundKept.takeCapture (e : OpEntry) (l : Fin 256) (k : Fin 128) : SoundKept s (takeCapture e l k s) := by
  rw [takeCapture_frame]
  exact .outside (fun _ h => (takeCapture_line e l k).trans h)

theorem SoundKept.askFetch (e : OpEntry) (l : Fin 256) (k : Fin 128) : SoundKept s (askFetch e l k s) := by
  rw [askFetch_frame]; exact .outside (fun _ h => h)

/-! ### Service commands -/

theorem SoundKept.answerWrite {o : Option State}
    (h : ∀ s', o = some s' → s' = { s with store := s'.store, journal := s'.journal }) :
    SoundKept s (answerWrite o s) := by
  unfold Machine.answerWrite
  split
  · rename_i s'
    rw [h s' rfl]; exact .outside (fun _ h => h)
  · exact .outside (fun _ h => h)

theorem SoundKept.unlessStarting {t : State} (h : SoundKept s t) : SoundKept s (unlessStarting s t) := by
  unfold Machine.unlessStarting
  split
  · exact .outside (fun _ h => h)
  · exact h

/-- Every service command but RESTART. -/
theorem SoundKept.takeCommand {c : ServiceCmd} (hc : c ≠ .restart) : SoundKept s (takeCommand c s) := by
  cases c with
  | ident => exact .outside (fun _ h => h)
  | status g => exact .outside (fun _ h => h)
  | channels => exact .unlessStarting (.outside (fun _ h => h))
  | journal k => exact .outside (fun _ h => h)
  | slotRead l k => exact .unlessStarting (by rw [takeRead_frame]; exact .outside (fun _ h => h))
  | slotWrite l k data => exact .unlessStarting (.answerWrite (fun _ h => enterWrite_frame h))
  | imageRead off len => exact .unlessStarting (by rw [takeRead_frame]; exact .outside (fun _ h => h))
  | imageWrite off data => exact .unlessStarting (.answerWrite (fun _ h => enterImage_frame h))
  | lock l st => exact .unlessStarting (by rw [takeLock_frame]; exact .outside (fun _ h => h))
  | restart => exact absurd rfl hc

/-! ### Deliveries -/

theorem SoundKept.greet (isNew : Bool) : SoundKept s (greet isNew s) := by
  by_cases h : s.view.mode = .run
  · rw [greet_frame]; exact .outside (fun hm => by rw [h] at hm; cases hm)
  · unfold Machine.greet
    rw [if_neg (by simp [h])]; exact .refl s

/-- A view that differs in nothing that speaks. -/
theorem SoundKept.setView {v : View} (hm : v.mode = s.view.mode) (ht : v.tutti = s.view.tutti)
    (hp : v.program = s.view.program) (hs : v.stage = s.view.stage) : SoundKept s (setView v s) :=
  ⟨fun _ => .refl _, rfl, rfl, rfl, rfl, rfl, rfl, rfl, hm, ht, hp, hs, fun _ h => h⟩

theorem SoundKept.toSequencer (mark : Mark) (header : Byte) (m : Msg) :
    SoundKept s (toSequencer mark header m s) := by
  rw [toSequencer_frame]; exact .outside (fun _ h => h)

/-! ### Time -/

/-- Nothing but the waiting commands and the Link Controller is changed. -/
def LinkOnly (s t : State) : Prop := ∃ p l, t = { s with pending := p, link := l }

theorem countHalf_linkOnly : LinkOnly s (countHalf s) := by
  unfold countHalf
  dsimp only
  split
  · split <;> exact ⟨_, _, rfl⟩
  · exact ⟨_, _, rfl⟩

/-- One µs inside a frame: an edge of a line, or a half-bit's count (R150–R152, R161, R164). -/
theorem frameUs_linkOnly : LinkOnly s (frameUs s) := by
  unfold frameUs
  split
  · unfold lckFalls; dsimp only
    split <;> exact ⟨_, _, rfl⟩
  · split
    · exact ⟨_, _, rfl⟩
    · split
      · unfold startEdge
        split
        · exact countHalf_linkOnly
        · exact ⟨_, _, rfl⟩
      · split
        · unfold stopEdge
          split <;> exact ⟨_, _, rfl⟩
        · exact countHalf_linkOnly

theorem idleUs_linkOnly : LinkOnly s (idleUs s) := by
  unfold idleUs
  split
  · exact ⟨_, _, rfl⟩
  · split
    · exact ⟨_, _, rfl⟩
    · split <;> exact ⟨_, _, rfl⟩

theorem seekingUs_linkOnly : LinkOnly s (seekingUs s) := by
  unfold seekingUs
  split
  · exact ⟨_, _, rfl⟩
  · split <;> exact ⟨_, _, rfl⟩

/-- A line that is not OFF may move on with the µs. -/
theorem LinkOnly.keepLevels {t : State} (h : LinkOnly s t) (lck lda : Bool) (hl : s.link.line ≠ .off) :
    SoundKept s (keepLevels lck lda t) := by
  obtain ⟨p, l, rfl⟩ := h
  exact .outside (fun _ h => absurd h hl)

theorem SoundKept.linkUs : SoundKept s (linkUs s) := by
  unfold Machine.linkUs
  split
  case h_1 => exact .refl s
  case h_2 h => exact seekingUs_linkOnly.keepLevels _ _ (by simp [h])
  case h_3 h => exact idleUs_linkOnly.keepLevels _ _ (by simp [h])
  case h_4 h => exact frameUs_linkOnly.keepLevels _ _ (by simp [h])
  case h_5 h => exact frameUs_linkOnly.keepLevels _ _ (by simp [h])

theorem SoundKept.relayUs : SoundKept s (relayUs s) := by
  unfold Machine.relayUs
  split
  · exact .refl s
  · exact ⟨fun _ => .refl _, rfl, rfl, rfl, rfl, rfl, rfl, rfl, rfl, rfl, rfl, rfl, fun _ h => h⟩

theorem SoundKept.replyUs : SoundKept s (replyUs s) := by
  unfold Machine.replyUs
  split
  · exact .outside (fun _ h => h)
  · exact .refl s

theorem SoundKept.usStep : SoundKept s (usStep s) := (SoundKept.linkUs.trans .relayUs).trans .replyUs

theorem SoundKept.stallTick : SoundKept s (stallTick s) := by
  unfold Machine.stallTick
  split
  · exact .outside (fun _ h => h)
  · exact .refl s

theorem SoundKept.supplyTick : SoundKept s (supplyTick s) := by
  unfold Machine.supplyTick
  split
  case h_6 => exact .refl s
  all_goals exact .outside (fun _ h => h)

/-- The debounce counts are no part of the sound (R3). -/
theorem SoundKept.contactsTick : SoundKept s (contactsTick s) :=
  (SoundKept.withChannels (fun c => by
    rw [Fin.getElem_fin, Fin.getElem_fin, Vector.getElem_ofFn]; exact ⟨rfl, rfl, rfl, rfl⟩)).trans
    (.outside (fun _ h => h))

theorem SoundKept.samplersTick : SoundKept s (samplersTick s) := by
  have contacts : SoundKept s (if sampling s then Machine.contactsTick (Machine.supplyTick s) else s) := by
    split
    · exact SoundKept.supplyTick.trans .contactsTick
    · exact .refl s
  have pistons (u : State) : SoundKept u (if pistonsSampled s then pistonsTick u else u) := by
    split
    · exact .outside (fun _ h => h)
    · exact .refl u
  have shoe (u : State) : SoundKept u (if shoeSampled s then shoeTick u else u) := by
    unfold shoeTick
    split
    · split <;> exact .outside (fun _ h => h)
    · exact .refl u
  exact (contacts.trans (pistons _)).trans (shoe _)

/-- The drive timers are no part of the sound. -/
theorem SoundKept.drivesTick : SoundKept s (drivesTick s) :=
  (SoundKept.withChannels (fun c => by
    rw [Fin.getElem_fin, Fin.getElem_fin, Vector.getElem_ofFn]; exact ⟨rfl, rfl, rfl, rfl⟩)).trans
    (.outside (fun _ h => h))

theorem SoundKept.storeTick : SoundKept s (storeTick s) := by
  unfold Machine.storeTick
  split
  · exact .refl s
  · exact .outside (fun _ h => h)

/-- The start's timers run on, and none starts or stops (R220–R222). -/
theorem SoundKept.startTick : SoundKept s (startTick s) :=
  ⟨fun _ => .refl _, rfl, rfl, rfl, rfl, rfl, Option.isSome_map, rfl, rfl, rfl, rfl, rfl, fun _ h => h⟩

theorem SoundKept.msTick : SoundKept s (msTick s) := by
  unfold Machine.msTick
  refine .trans (.trans (.trans (.trans (.trans ?_ .stallTick) .samplersTick) .drivesTick) .storeTick) .startTick
  exact .outside (fun _ h => h)

theorem SoundKept.clockStep : SoundKept s (clockStep s) := by
  have start : SoundKept s { s with start := { s.start with atReset := false } } :=
    ⟨fun _ => .refl _, rfl, rfl, rfl, rfl, rfl, rfl, rfl, rfl, rfl, rfl, rfl, fun _ h => h⟩
  unfold Machine.clockStep
  dsimp only
  split
  · exact (start.trans (.outside (fun _ h => h))).trans .usStep
  · exact (start.trans (.outside (fun _ h => h))).trans .msTick

/-- What the station does while no command waits. -/
theorem SoundKept.idle : SoundKept s (idle s) := by
  unfold Machine.idle
  split
  · exact .outside (fun _ h => h)
  · exact .clockStep

end Sys2Proof.Machine
end

section
/-! PROOF. The commands that change what the law of the sound looks at: each keeps the law, and so every step does. -/

namespace Sys2Proof.Machine

variable {s : State}

/-! ### Resets and start-up -/

/-- In STARTING the law asks for PLAIN channels that follow and an unheard station alone. -/
theorem SoundLaw.of_starting {t : State} (hm : t.view.mode = .starting) (hp : PlainFollowsContact t)
    (hu : StartingUnheard t) : SoundLaw t :=
  ⟨hp, hu, fun h => absurd hm h, (relayCatchesUp_iff t).2 (fun h => absurd hm h)⟩

theorem resetBlocks_soundLaw (s : State) : SoundLaw (resetBlocks s) := by
  have reset (c : Chan) : (resetBlocks s).channels[c] = Channel.reset := Vector.getElem_replicate c.isLt
  refine .of_starting rfl ⟨fun c _ => ?_, fun _ c => ?_, fun h => nomatch h⟩ (fun _ => ⟨rfl, rfl, rfl⟩)
  all_goals rw [reset]; rfl

/-- The records of the clamped fields change the journal and the references to it (R218). -/
theorem reportClamped_frame (xs : List (Nat × Nat)) (s : State) :
    reportClamped xs s = { s with
      journal := (reportClamped xs s).journal
      ops := (reportClamped xs s).ops
      store := (reportClamped xs s).store } := by
  induction xs generalizing s with
  | nil => rfl
  | cons x xs ih => unfold reportClamped; rw [ih]; rfl

theorem loadLocks_frame (s : State) : loadLocks s = { s with store := (loadLocks s).store } := by
  unfold loadLocks; split <;> rfl

theorem loadCalibration_frame (s : State) :
    loadCalibration s = { s with
      store := (loadCalibration s).store
      cresc := (loadCalibration s).cresc
      journal := (loadCalibration s).journal
      ops := (loadCalibration s).ops } := by
  unfold loadCalibration
  dsimp only
  split
  · split <;> rfl
  · rfl

/-- The load event keeps the station in STARTING; outside SAFE no channel has a contact or a registered state yet
(R219, R221). -/
theorem load_soundLaw (h : SoundLaw s) (hm : s.view.mode = .starting) (hp : s.start.poll.isSome = true) :
    SoundLaw (load s) := by
  obtain ⟨⟨hf, hplain, -⟩, hu, -, -⟩ := h
  obtain ⟨hl, ht, hs⟩ := hu hm
  have notSafe {b : Prop} (h : s.view.mode = .safe) : b := nomatch hm.symm.trans h
  unfold load
  dsimp only
  split
  · exact .of_starting hm ⟨hf, fun _ => hplain (.inl hp), notSafe⟩ (fun _ => ⟨hl, ht, hs⟩)
  · rename_i hsafe
    unfold loadImage
    rw [loadCalibration_frame, loadLocks_frame, reportClamped_frame]
    refine .of_starting hm ⟨fun c _ => ?_, fun h => ?_, notSafe⟩ (fun _ => ⟨hl, ht, hs⟩)
    · simp [channelOf, Channel.reset]
    · simp at h hsafe; simp [hsafe] at h

theorem SoundKept.announceRun : SoundKept s (announceRun s) := by
  unfold Machine.announceRun
  split
  · dsimp only
    refine SoundKept.trans ?_ (.setView rfl rfl rfl rfl)
    split
    · exact SoundKept.trans (.handOver _) .originationCheck
    · exact .handOver _
  · exact .refl s

/-- The station with the first registration of its channels (R14, R222). -/
def firstRegistered (s : State) : State :=
  { s with channels := Vector.ofFn (fun c => firstRegistration s.channels[c]) }

@[simp] theorem firstRegistered_at (s : State) (c : Chan) :
    (firstRegistered s).channels[c.val] = firstRegistration s.channels[c.val] := Vector.getElem_ofFn c.isLt

theorem complete_eq (s : State) : complete s = announceRun (enterMode (firstShift (firstRegistered s))) := rfl

/-- A PLAIN channel takes its contact and nothing else changes (R6, R14). -/
theorem firstRegistration_follows {x : Channel} (h : x.type = .plain) :
    firstRegistration x = { x with registered := x.contact } := by
  unfold firstRegistration
  rw [if_neg (by rw [h]; decide)]

/-- In STARTING nothing is added to the registered stops (R16, R120). -/
theorem firstRegistered_speaks (hm : s.view.mode = .starting) (ht : s.view.tutti = false) (hs : s.view.stage = 0)
    (c : Chan) : speaks (firstRegistered s) c = (firstRegistration s.channels[c]).registered := by
  have outside : (firstRegistered s).view.mode ≠ .safe := fun h => nomatch hm.symm.trans h
  rw [speaks_registered outside ht hs c]
  exact congrArg Channel.registered (firstRegistered_at s c)

/-- The station that enters its mode, with its channels registered and the first set shifting (R14, R20, R222). -/
def modeEntered (s : State) (mode : Mode) (cresc : Option Flash) : State :=
  { s with
    channels := (firstRegistered s).channels
    relay := { s.relay with
      speaking := composedSet (firstRegistered s)
      shift := some (composedSet (firstRegistered s))
      shiftUs := 0 }
    view := { s.view with mode := mode }
    link := s.link.leaveFrame .seeking
    start := { s.start with wait := none }
    flashes := { s.flashes with cresc := cresc } }

/-- The completion outside SAFE, up to its ANNOUNCE (R222, R236). -/
theorem enterMode_run (h : s.start.safe = false) :
    enterMode (firstShift (firstRegistered s)) = modeEntered s .run
      (if s.params.shoeRole = true ∧ s.cresc.cal = .faulted then some { lit := true, ms := 0 } else none) := by
  unfold enterMode firstShift modeEntered
  by_cases faulted : s.cresc.cal = .faulted <;> simp [firstRegistered, h, faulted]

/-- The completion in SAFE (R222, R236). -/
theorem enterMode_safe (h : s.start.safe = true) :
    enterMode (firstShift (firstRegistered s)) = modeEntered s .safe none := by
  unfold enterMode firstShift modeEntered
  simp [firstRegistered, h]

/-- The station that enters RUN or SAFE meets the law of the sound: the registered stops speak, and their set is being
shifted (R20, R222). -/
theorem modeEntered_soundLaw (h : SoundLaw s) (hm : s.view.mode = .starting) {mode : Mode}
    (started : mode ≠ .starting) (safe : mode = .safe → s.start.safe = true) (flash : Option Flash) :
    SoundLaw (modeEntered s mode flash) := by
  obtain ⟨⟨-, plain, -⟩, unheard, -, -⟩ := h
  obtain ⟨-, ht, hs⟩ := unheard hm
  have channel (c : Chan) : (modeEntered s mode flash).channels[c] = firstRegistration s.channels[c] :=
    firstRegistered_at s c
  have follows (c : Chan) (hc : s.channels[c].type = .plain) :
      (firstRegistration s.channels[c]).registered = (firstRegistration s.channels[c]).contact := by
    rw [firstRegistration_follows hc]
  refine ⟨⟨fun c hc => ?_, fun hq c => ?_, safe⟩, fun h => absurd h started, fun _ => chanSet_congr (fun c => ?_),
    (relayCatchesUp_iff _).2 (fun _ => ⟨fun x hx => .inl (Option.some.inj hx), fun hx => nomatch hx⟩)⟩
  · rw [channel] at hc ⊢; exact follows c hc
  · rw [channel]; exact plain hq c
  · rw [firstRegistered_speaks hm ht hs c, ← channel]
    by_cases hsafe : mode = .safe
    · rw [speaks_safe (s := modeEntered s mode flash) hsafe, channel]
      exact follows c (plain (.inr (safe hsafe)) c)
    · rw [speaks_registered (s := modeEntered s mode flash) hsafe ht hs]

theorem complete_soundLaw (h : SoundLaw s) (hm : s.view.mode = .starting) : SoundLaw (complete s) := by
  rw [complete_eq]
  refine SoundLaw.of_kept ?_ .announceRun
  cases safe : s.start.safe
  · rw [enterMode_run safe]; exact modeEntered_soundLaw h hm (mode := .run) (by decide) (fun h => nomatch h) _
  · rw [enterMode_safe safe]; exact modeEntered_soundLaw h hm (mode := .safe) (by decide) (fun _ => safe) _

/-! ### Channels -/

/-- One channel's record changes and the speaking set is recomposed, with nothing else that is heard (R17). -/
theorem SoundLaw.recompose_setChannel (h : SoundLaw s) (c : Chan) (x : Channel) (ht : x.type = s.channels[c].type)
    (hf : x.type = .plain → x.registered = x.contact) : SoundLaw (recompose (setChannel c x s)) :=
  h.of_recomposed (h.1.setChannel c x ht hf) h.2.1 (fun hm => hm) rfl

/-- States that the sound cannot tell apart are recomposed alike (R17). -/
theorem SoundKept.recompose {t : State} (k : SoundKept s t) (hr : t.relay = s.relay) :
    SoundKept (recompose s) (recompose t) := by
  have same : (Machine.recompose t).relay = (Machine.recompose s).relay := by
    rw [recompose_relay, recompose_relay, hr, show composedSet t = composedSet s from chanSet_congr k.speaks]
  exact { k with
    speaking := by rw [same]
    shift := by rw [same]
    further := by rw [same]
    lastLatched := by rw [same] }

/-- A hand move: the record changed, the set recomposed, and then nothing that is heard (R7). -/
theorem handMove_kept (c : Chan) (on : Bool) :
    SoundKept (recompose (setChannel c { s.channels[c].follow on with drive := .idle } s)) (handMove c on s) := by
  unfold handMove
  dsimp only
  refine SoundKept.trans ?_ (.handOver _)
  split
  · refine SoundKept.recompose ?_ (by simp)
    rw [closingCheck_frame]; exact .outside (fun _ h => h)
  · exact .refl _

/-- In RUN and LISTEN the contact of a channel that is not PLAIN is not heard (R5, R8, R10). -/
theorem SoundLaw.setChannel_contact (h : SoundLaw s) (hw : s.view.mode ≠ .safe) (c : Chan) (x : Channel)
    (ht : x.type = s.channels[c].type) (hp : s.channels[c].type ≠ .plain) (hm : x.tutti = s.channels[c].tutti)
    (hr : x.registered = s.channels[c].registered) : SoundLaw (setChannel c x s) := by
  refine h.of_speaks (h.1.setChannel c x ht (fun hx => absurd (ht.symm.trans hx) hp)) h.2.1
    (fun hs => ⟨hs, fun d => ?_⟩) rfl rfl rfl rfl
  rw [speaks_outsideSafe hw, speaks_outsideSafe (s := setChannel c x s) hw]
  by_cases hd : d = c
  · subst hd; simp [hm, hr]
  · simp only [Fin.getElem_fin, setChannel_other hd]; rfl

theorem movedChange_soundLaw (h : SoundLaw s) (hw : s.view.mode ≠ .safe) (c : Chan) (on : Bool)
    (ht : s.channels[c].type = .moved) : SoundLaw (movedChange c on s) := by
  have notPlain : s.channels[c].type ≠ .plain := by rw [ht]; decide
  have move : SoundLaw (handMove c on s) := by
    refine SoundLaw.of_kept (h.recompose_setChannel c _ ?_ ?_) (handMove_kept c on)
    · rfl
    · exact fun hx => absurd hx notPlain
  unfold movedChange
  dsimp only
  split
  · exact move
  · exact move
  · exact h.setChannel_contact hw c _ rfl notPlain rfl rfl

theorem debouncedChange_soundLaw (h : SoundLaw s) (c : Chan) (on : Bool) : SoundLaw (debouncedChange c on s) := by
  unfold debouncedChange
  dsimp only
  split
  case h_1 hm =>
    refine .of_starting hm (h.1.setChannel c _ ?_ ?_) h.2.1
    · split <;> rfl
    · split
      · exact fun _ => rfl
      · rename_i hx; exact fun hx' => absurd hx' hx
  case h_2 => exact h.recompose_setChannel c _ rfl (fun _ => rfl)
  case h_3 hs =>
    unfold workingChange
    dsimp only
    split
    case h_1 => exact h.recompose_setChannel c _ rfl (fun _ => rfl)
    case h_2 ht => exact movedChange_soundLaw h hs c on ht
    case h_3 ht =>
      have notPlain : s.channels[c].type ≠ .plain := by rw [ht]; decide
      split
      · unfold litPress
        refine SoundLaw.of_kept (h.recompose_setChannel c _ ?_ ?_) (.handOver _)
        · rfl
        · exact fun hx => absurd hx notPlain
      · exact h.setChannel_contact hs c _ rfl notPlain rfl rfl

/-- The end of a shift sends the speaking set on (R19). -/
theorem shiftEnd_soundLaw (h : SoundLaw s) : SoundLaw { s with relay := s.relay.shiftEnd } := by
  obtain ⟨hp, hu, hc, hr⟩ := h
  refine ⟨hp, hu, fun hm => ?_, (relayCatchesUp_iff _).2 (fun hm => ((relayCatchesUp_iff s).1 hr hm).shiftEnd)⟩
  exact (Relay.shiftEnd_speaking _).trans (hc hm)

/-! ### The drive -/

theorem verifyMove_soundLaw (h : SoundLaw s) (c : Chan) (dir : Bool) (a : Attempt) :
    SoundLaw (verifyMove c dir a s) := by
  have kept (d : Drive) (f : Bool) : SoundKept s (setChannel c { s.channels[c] with drive := d, fault := f } s) :=
    .setChannel ⟨rfl, rfl, rfl, rfl⟩
  unfold verifyMove
  dsimp only
  split
  · refine h.of_kept ((kept .idle false).trans ?_)
    unfold verifyMatch
    rw [closingCheck_frame]; exact .outside (fun _ h => h)
  · split
    · split
      · exact h.of_kept ((kept .queued s.channels[c].fault).trans (.outside (fun _ h => h)))
      · unfold stuckVerdict
        dsimp only
        rw [closingCheck_frame]
        refine SoundLaw.of_kept (h.recompose_setChannel c _ ?_ ?_) (.outside (fun _ h => h))
        · rfl
        · exact fun _ => rfl
    · exact h.of_kept ((kept .queued s.channels[c].fault).trans (.outside (fun _ h => h)))

theorem SoundKept.restoreSupply : SoundKept s (restoreSupply s) := by
  have channels : SoundKept s { s with channels := Vector.ofFn (fun c => restoredChannel s.channels[c]) } := by
    refine .withChannels (fun c => ?_)
    rw [Fin.getElem_fin, Fin.getElem_fin, Vector.getElem_ofFn, restoredChannel]
    split
    · exact ⟨rfl, rfl, rfl, rfl⟩
    · split <;> exact ⟨rfl, rfl, rfl, rfl⟩
  unfold Machine.restoreSupply
  dsimp only
  rw [closingCheck_frame, reportFault_frame, countDone_frame]
  exact channels.trans (.outside (fun _ h => h))

theorem SoundKept.holdMoves : SoundKept s (holdMoves s) :=
  .withChannels (fun c => by
    rw [Fin.getElem_fin, Fin.getElem_fin, Vector.getElem_ofFn]; exact ⟨rfl, rfl, rfl, rfl⟩)

/-! ### Operations -/

/-- A plan treats the channels of the affected set and no other (R34). -/
theorem plan_channel (e : OpEntry) (target : Chan → Bool) (s : State) (c : Chan) :
    (plan e target s).channels[c.val] =
      if e.affected.has c = true then plannedChannel s.channels[c.val] (target c) else s.channels[c.val] := by
  unfold plan
  rw [becomeDriving_channels, closeDriving_channels, leaveList_channels, recompose_channels]
  have := (planAll_spec e.affected target (List.finRange 48) (List.nodup_finRange 48) s).1 c
  simpa using this

/-- A plan recomposes the speaking set (R17). -/
theorem plan_relay (e : OpEntry) (target : Chan → Bool) (s : State) :
    (plan e target s).relay = s.relay.compose (composedSet (plan e target s)) := by
  unfold plan
  rw [composedSet_congr (s := planAll e.affected target (List.finRange 48) s) (by simp) (by simp) (by simp)]
  simp

/-- A plan withdraws a hold of the frame on the link (R91). -/
theorem plan_link (e : OpEntry) (target : Chan → Bool) (s : State) :
    (plan e target s).link = s.link.withdrawHold := by
  unfold plan; simp

/-- A planned channel that is PLAIN stays as it was; the type is kept (R34). -/
theorem plannedChannel_type (x : Channel) (t : Bool) : (plannedChannel x t).type = x.type := by
  unfold plannedChannel; split <;> simp [*]

theorem plannedChannel_plain {x : Channel} (h : x.type = .plain) (t : Bool) : plannedChannel x t = x := by
  unfold plannedChannel; rw [h]

theorem plan_soundLaw (h : SoundLaw s) (e : OpEntry) (target : Chan → Bool) : SoundLaw (plan e target s) := by
  have view : (plan e target s).view = s.view := by simp
  have start : (plan e target s).start = s.start := by rw [plan_frame]
  have type (c : Chan) : (plan e target s).channels[c].type = s.channels[c].type := by
    rw [Fin.getElem_fin, plan_channel]
    split
    · exact plannedChannel_type _ _
    · rfl
  refine h.of_recomposed (h.1.of_types type (fun c hc => ?_) (by rw [start]) (by rw [start]) (by rw [view])) ?_
    (by rw [view]; exact id) (plan_relay e target s)
  · have plain := (type c).symm.trans hc
    rw [Fin.getElem_fin, plan_channel, plannedChannel_plain (by simpa using plain), ite_self]
    exact h.1.1 c plain
  · unfold StartingUnheard
    rw [view, plan_link, Link.withdrawHold_line]
    exact h.2.1

theorem takeUp_soundLaw (h : SoundLaw s) (e : OpEntry) : SoundLaw (takeUp e s) := by
  unfold takeUp
  split
  · exact h.of_kept (.askFetch _ _ _)
  · exact h.of_kept (.takeCapture _ _ _)
  · exact plan_soundLaw h e _

theorem SoundKept.leaveList : SoundKept s (leaveList s) := .outside (fun _ h => by simpa using h)

theorem deliverFetch_soundLaw (h : SoundLaw s) (req : FetchReq) (bytes : List Byte) :
    SoundLaw (deliverFetch req bytes s) := by
  unfold deliverFetch recallOutcome
  split
  · split
    · exact h
    · split
      · split
        · exact plan_soundLaw h _ _
        · exact plan_soundLaw h _ _
        · exact h.of_kept (.trans (.outside (fun _ h => h)) .leaveList)
      · exact h
  · exact h.of_kept (.outside (fun _ h => h))
  · exact h.of_kept (.outside (fun _ h => h))

end Sys2Proof.Machine
end

section
/-! PROOF. Deliveries and service commands keep the law of the sound; the commands one by one; O9. -/

namespace Sys2Proof.Machine

variable {s : State}

/-! ### Deliveries -/

/-- A new view, recomposed where what speaks has changed (R115, R118): in SAFE only contacts speak, so nothing is. -/
theorem SoundLaw.recomposeIf_setView (h : SoundLaw s) (hs : s.view.mode ≠ .starting) (v : View)
    (hm : v.mode = s.view.mode) (changed : Bool)
    (hc : changed = false → v.tutti = s.view.tutti ∧ v.program = s.view.program ∧ v.stage = s.view.stage) :
    SoundLaw (recomposeIf changed (setView v s)) := by
  have plain : PlainFollowsContact (setView v s) := h.1.of_types (fun _ => rfl) (fun c hc => h.1.1 c hc) rfl rfl hm
  have unheard : StartingUnheard (setView v s) := fun hv => absurd (hm.symm.trans hv) hs
  unfold recomposeIf
  split
  · exact h.of_recomposed plain unheard (fun _ => hs) rfl
  · rename_i hn
    by_cases unchanged : changed = false
    · obtain ⟨ht, hp, hst⟩ := hc unchanged
      exact h.of_kept (.setView hm ht hp hst)
    · have safe : s.view.mode = .safe := by
        cases hmode : s.view.mode with
        | starting => exact absurd hmode hs
        | run => simp [working, hm, hmode, unchanged] at hn
        | listen => simp [working, hm, hmode, unchanged] at hn
        | safe => rfl
      refine h.of_speaks plain unheard (fun _ => ⟨hs, fun c => ?_⟩) rfl rfl rfl rfl
      rw [speaks_safe safe, speaks_safe (s := setView v s) (hm.trans safe)]; rfl

theorem effect_soundLaw (h : SoundLaw s) (hs : s.view.mode ≠ .starting) (mark : Mark) (header : Byte) (m : Msg) :
    SoundLaw (effect mark header m s) := by
  have place (l k : Byte) (m : Msg) : SoundLaw
      (if k.toNat < 128 then toSequencer mark header m (setView { s.view with
        level := l.toFin, lastRecall := some (l.toFin, Fin.ofNat 128 k.toNat) } s) else s) := by
    split
    · refine h.of_kept (.trans (t := setView _ s) ?_ (.toSequencer _ _ _))
      exact .setView rfl rfl rfl rfl
    · exact h
  match m with
  | .cancel scope => exact h.of_kept (.toSequencer _ _ _)
  | .recall l k => exact place l k _
  | .capture l k => exact place l k _
  | .handset on stop => exact h.of_kept (.toSequencer _ _ _)
  | .toggle a stop => exact h.of_kept (.toSequencer _ _ _)
  | .tutti on =>
    apply h.recomposeIf_setView hs
    · rfl
    · intro hc
      have same : s.view.tutti = on := by simpa using hc
      exact ⟨same.symm, rfl, rfl⟩
  | .stage p st =>
    apply h.recomposeIf_setView hs
    · rfl
    · intro hc
      have same : s.view.program = p ∧ s.view.stage = stageOf st := by simpa using hc
      exact ⟨rfl, same.1.symm, same.2.symm⟩
  | .setter armed =>
    have view : SoundKept s (setView { s.view with setter := armed } s) := .setView rfl rfl rfl rfl
    show SoundLaw (effectSetter armed s)
    unfold effectSetter
    dsimp only
    split
    · exact h.of_kept (view.trans (.outside (fun _ h => h)))
    · exact h.of_kept view
  | .level l => exact h.of_kept (.setView rfl rfl rfl rfl)
  | .announce lr sr fr l => exact h.of_kept (.setView rfl rfl rfl rfl)

/-- In LISTEN the channels speak as in RUN (R16, R197). -/
theorem enterListen_soundLaw (h : SoundLaw s) (hm : s.view.mode = .run) : SoundLaw (enterListen s) := by
  have started : s.view.mode ≠ .starting := by rw [hm]; decide
  obtain ⟨⟨follows, plain, -⟩, -, -, -⟩ := id h
  refine h.of_speaks ⟨follows, plain, fun hs => nomatch hs⟩ (fun hs => nomatch hs)
    (fun _ => ⟨started, fun c => ?_⟩) rfl rfl rfl rfl
  rw [speaks_outsideSafe (s := s) (by rw [hm]; decide), speaks_outsideSafe (s := enterListen s) (fun hs => nomatch hs)]
  rfl

theorem checkDuplicate_soundLaw (h : SoundLaw s) (mark : Mark) (header : Byte) :
    SoundLaw (checkDuplicate mark header s) := by
  unfold checkDuplicate
  split
  · unfold detectDuplicate
    dsimp only
    have seen : SoundKept s (setView
        { (reportFault .duplicateId 0 header 0 0 s).view with duplicateSeen := true }
        (reportFault .duplicateId 0 header 0 0 s)) :=
      .trans (.outside (fun _ h => h)) (.setView rfl rfl rfl rfl)
    split
    case h_1 hm _ => exact enterListen_soundLaw (h.of_kept seen) (seen.mode.trans hm)
    case h_2 => exact h.of_kept seen
    case h_3 => exact h
  · exact h

theorem deliver_soundLaw (h : SoundLaw s) (hs : s.view.mode ≠ .starting) (mark : Mark) (header : Byte) (m : Msg) :
    SoundLaw (deliver mark header m s) := by
  have heard : SoundKept s (judgeReady (hear mark (headerOrigin header) m s)) :=
    .trans (.setView rfl rfl rfl rfl) (.setView rfl rfl rfl rfl)
  have effected := effect_soundLaw (h.of_kept heard) (by rw [heard.mode]; exact hs) mark header m
  exact checkDuplicate_soundLaw (effected.of_kept (.greet _)) mark header

/-- A frame is accepted only where the line is RECEIVING or SENDING (R161). -/
theorem acceptedFrame_line {kind : Nat} {x : Mark × Byte × Msg} (h : acceptedFrame kind s = some x) :
    s.link.line ≠ .off := by
  intro hl
  unfold acceptedFrame stopMark at h
  simp only [hl] at h
  cases ha : s.link.assembly <;> rw [ha] at h <;> cases h

theorem acceptFrame_soundLaw (h : SoundLaw s) (kind : Nat) : SoundLaw (acceptFrame kind s) := by
  unfold acceptFrame
  split
  · rename_i mark header m ha
    have started : s.view.mode ≠ .starting := fun hm => acceptedFrame_line ha (h.2.1 hm).1
    have stopped : SoundKept s (stopLink mark s) := .outside (fun hm => absurd hm started)
    exact deliver_soundLaw (h.of_kept stopped) started mark header m
  · exact h

/-! ### Service commands -/

theorem takeCommand_soundLaw (h : SoundLaw s) (c : ServiceCmd) : SoundLaw (takeCommand c s) := by
  by_cases hc : c = .restart
  · subst hc
    show SoundLaw (unlessStarting s (takeRestart s))
    unfold unlessStarting takeRestart
    split
    · exact h.of_kept (.outside (fun _ h => h))
    · split
      · exact (resetBlocks_soundLaw (dropOperations s)).of_kept (.outside (fun _ h => h))
      · exact h.of_kept (.outside (fun _ h => h))
  · exact h.of_kept (.takeCommand hc)

theorem endCommand_soundLaw (h : SoundLaw s) (spoilt : Bool) (bytes : List Byte) :
    SoundLaw (endCommand spoilt bytes s) := by
  have port : SoundKept s { s with port := { s.port with assembly := [], bad := false, overlong := false } } :=
    .outside (fun _ h => h)
  unfold endCommand
  dsimp only
  split
  · exact takeCommand_soundLaw (h.of_kept port) _
  · exact h.of_kept (port.trans (.outside (fun _ h => h)))

/-- A service command given whole keeps the law, a RESTART among them. -/
theorem serviceCommand_soundLaw {t : State} (h : SoundLaw s) (body : List Byte)
    (e : serviceCommand body s = .next t) : SoundLaw t := by
  cases e
  split
  · exact endCommand_soundLaw h false _
  · exact h

/-! ### The commands -/

/-- A command whose conditions do not hold keeps everything. -/
theorem SoundKept.ite {p : Prop} [Decidable p] {t : State} (h : p → SoundKept s t) :
    SoundKept s (if p then t else s) := by
  split
  · exact h ‹p›
  · exact .refl s

/-- A command whose conditions do not hold keeps the law. -/
theorem SoundLaw.ite {p : Prop} [Decidable p] {t : State} (h : SoundLaw s) (ht : p → SoundLaw t) :
    SoundLaw (if p then t else s) := by
  split
  · exact ht ‹p›
  · exact h

/-- A link command whose station is not OFF. -/
theorem SoundKept.onLine {link : Link} (hl : s.link.line ≠ .off) : SoundKept s (setLink link s) :=
  .outside (fun _ h => absurd h hl)

theorem execPistonPress_kept {t : State} (i : Fin 32) (e : execPistonPress i s = .next t) : SoundKept s t := by
  cases e
  split
  · have input : SoundKept s (setPiston i true s) := .outside (fun _ h => h)
    unfold takePress
    split
    case h_1 hm =>
      rw [pressAct_frame]; exact input.trans (.outside (fun h => by rw [hm] at h; cases h))
    case h_2 => exact input.trans (.outside (fun _ h => h))
    case h_3 => exact input
  · exact .refl s

theorem execPistonRelease_kept {t : State} (i : Fin 32) (e : execPistonRelease i s = .next t) : SoundKept s t := by
  cases e
  split
  · have input : SoundKept s (setPiston i false s) := .outside (fun _ h => h)
    unfold takeRelease
    split
    · exact input.trans (.handOver _)
    · exact input
  · exact .refl s

/-- A supply loss touches drive states alone (R63). -/
theorem execSupplyLoss_kept {t : State} (e : execSupplyLoss s = .next t) : SoundKept s t := by
  cases e
  refine .ite (fun _ => ?_)
  refine SoundKept.holdMoves.trans (t := holdMoves s) ?_
  generalize holdMoves s = u
  exact .outside (fun _ h => h)

theorem execSupplyFirstSample_kept {t : State} (high : Bool) (e : execSupplyFirstSample high s = .next t) :
    SoundKept s t := by
  cases e
  refine .ite (fun _ => ?_)
  split <;> exact .outside (fun _ h => h)

/-- A pulse changes the drive state of its channel (R52). -/
theorem execPulseStart_kept {t : State} (e : execPulseStart s = .next t) : SoundKept s t := by
  cases e
  split
  · exact .refl s
  · rename_i m rest _
    split
    · refine .trans (t := { s with drive := { s.drive with queue := s.drive.queue.tail } }) ?_ (.setChannel ?_)
      · exact .outside (fun _ h => h)
      · exact ⟨rfl, rfl, rfl, rfl⟩
    · exact .refl s

theorem execPulseEnd_kept {t : State} (c : Chan) (e : execPulseEnd c s = .next t) : SoundKept s t := by
  cases e
  split
  · exact .setChannel ⟨rfl, rfl, rfl, rfl⟩
  · exact .refl s

theorem execVerify_soundLaw {t : State} (h : SoundLaw s) (c : Chan) (e : execVerify c s = .next t) : SoundLaw t := by
  cases e
  split
  · exact verifyMove_soundLaw h c _ _
  · exact h

theorem execTakeUpHead_soundLaw {t : State} (h : SoundLaw s) (e : execTakeUpHead s = .next t) : SoundLaw t := by
  cases e
  split
  · exact h
  · split
    · exact takeUp_soundLaw h _
    · exact h

theorem execStoringCaptureRetake_kept {t : State} (e : execStoringCaptureRetake s = .next t) : SoundKept s t := by
  cases e
  split
  · exact .refl s
  · split
    · exact .takeCapture _ _ _
    · exact .refl s

theorem execFetchServe_kept {t : State} (e : execFetchServe s = .next t) : SoundKept s t := by
  cases e
  split
  · rw [serveFetch_frame]; exact .outside (fun _ h => h)
  · exact .refl s

theorem execFetchResult_soundLaw {t : State} (h : SoundLaw s) (e : execFetchResult s = .next t) : SoundLaw t := by
  cases e
  split
  · exact h
  · split
    · exact h
    · rename_i bytes _
      have free : SoundKept s { s with store := { s.store with fetch := none } } := .outside (fun _ h => h)
      have delivered (req : FetchReq) := deliverFetch_soundLaw (h.of_kept free) req bytes
      rw [issueWaitingRecall_frame]
      exact (delivered _).of_kept (.outside (fun _ h => h))

theorem execWriteIssue_kept {t : State} (e : execWriteIssue s = .next t) : SoundKept s t := by
  cases e
  rw [issueWrite_frame]; exact .outside (fun _ h => h)

theorem execWriteComplete_kept {t : State} (e : execWriteComplete s = .next t) : SoundKept s t := by
  cases e
  split
  · exact .refl s
  · split
    · rw [completeWrite_frame]; exact .outside (fun _ h => h)
    · exact .refl s

theorem execStoreFault_kept {t : State} (e : execStoreFault s = .next t) : SoundKept s t := by
  cases e
  split
  · exact .refl s
  · split
    · rw [faultWrite_frame]; exact .outside (fun _ h => h)
    · exact .refl s

theorem execFrameStart_kept {t : State} (e : execFrameStart s = .next t) : SoundKept s t := by
  cases e
  split
  · rename_i hc
    have line : s.link.line ≠ .off := by
      simp only [canStartFrame, Bool.and_eq_true, decide_eq_true_eq] at hc
      rw [hc.1.2]; decide
    split
    · exact .onLine line
    · exact .onLine line
    · exact .refl s
  · exact .refl s

theorem execFrameReceived_kept {t : State} (f : WireFrame) (e : execFrameReceived f s = .next t) :
    SoundKept s t := by
  cases e
  split
  · split
    · split
      · exact .outside (fun _ h => h)
      · exact .refl s
    · exact .outside (fun _ h => h)
    · exact .refl s
  · exact .refl s

/-- The frame at STOP is one on the line (R161). -/
theorem frameAtStop_line {f : WireFrame} (h : frameAtStop s = some f) : s.link.line ≠ .off := by
  intro hl; unfold frameAtStop at h; rw [hl] at h; cases h

theorem execFrameNotAccepted_kept {t : State} (cause : StopCause) (e : execFrameNotAccepted cause s = .next t) :
    SoundKept s t := by
  cases e
  split
  · exact .refl s
  · rename_i f hf
    have line := frameAtStop_line hf
    split
    · unfold endObjected
      split
      · exact .trans (.onLine line) (.countAttempt _)
      · exact .onLine line
    · split
      · unfold endVetoed
        split
        · exact SoundKept.trans (.onLine line) (.outside (fun _ h => h))
        · exact .onLine line
      · exact .refl s

theorem execStopWithoutDelivery_kept {t : State} (e : execStopWithoutDelivery s = .next t) : SoundKept s t := by
  cases e
  split
  · exact .refl s
  · split
    · rename_i hu
      simp only [undelivered, Bool.and_eq_true, decide_eq_true_eq] at hu
      exact .onLine (by rw [hu.1.1]; decide)
    · exact .refl s

theorem execBrokenFrame_kept {t : State} (e : execBrokenFrame s = .next t) : SoundKept s t := by
  cases e
  split
  · rename_i hl; exact .onLine (by rw [hl]; decide)
  · rename_i hl; exact .trans (.onLine (by rw [hl]; decide)) (.countAttempt _)
  · exact .refl s

theorem execLinkStall_kept {t : State} (header : Option Byte) (e : execLinkStall header s = .next t) :
    SoundKept s t := by
  cases e
  split
  · exact .refl s
  · rename_i hl
    rw [takeStall_frame]
    exact .outside (fun _ h => absurd (.inl h) hl)

/-- A service command. -/
theorem exec_service_soundLaw {t : State} (h : SoundLaw s) (c : Instr) {body : List Byte}
    (hc : exec c s = serviceCommand body s) (e : exec c s = .next t) : SoundLaw t :=
  serviceCommand_soundLaw h body (hc.symm.trans e)

/-- Every command keeps the law of the sound. -/
theorem exec_soundLaw {t : State} (h : SoundLaw s) (c : Instr) (e : exec c s = .next t) : SoundLaw t := by
  cases c with
  | coldReset => cases e; exact (resetBlocks_soundLaw (cutWrite s)).of_kept (.outside (fun _ h => h))
  | loadEvent => cases e; exact h.ite (fun hc => load_soundLaw h hc.1 hc.2)
  | startUpCompletion => cases e; exact h.ite (fun hc => complete_soundLaw h hc.1)
  | debouncedChange c on => cases e; exact h.ite (fun _ => debouncedChange_soundLaw h c on)
  | shiftEnd => cases e; exact shiftEnd_soundLaw h
  | pistonPress i => exact h.of_kept (execPistonPress_kept i e)
  | pistonRelease i => exact h.of_kept (execPistonRelease_kept i e)
  | sequenceEndTimerExpiry => cases e; exact h.of_kept (.ite fun _ => .outside (fun _ h => h))
  | sampleEvent r => cases e; exact h.of_kept (.ite fun _ => .takeSample r)
  | intervalTimerExpiry => cases e; exact h.of_kept (.ite fun _ => .endInterval)
  | supplyFirstSample high => exact h.of_kept (execSupplyFirstSample_kept high e)
  | supplyLoss => exact h.of_kept (execSupplyLoss_kept e)
  | supplyWaitStart => cases e; exact h.of_kept (.ite fun _ => .outside (fun _ h => h))
  | supplyWaitAbandon => cases e; exact h.of_kept (.ite fun _ => .outside (fun _ h => h))
  | restore => cases e; exact h.of_kept (.ite fun _ => .restoreSupply)
  | pulseStart => exact h.of_kept (execPulseStart_kept e)
  | pulseEnd c => exact h.of_kept (execPulseEnd_kept c e)
  | verify c => exact execVerify_soundLaw h c e
  | takeUpHead => exact execTakeUpHead_soundLaw h e
  | storingCaptureRetake => exact h.of_kept (execStoringCaptureRetake_kept e)
  | fetchServe => exact h.of_kept (execFetchServe_kept e)
  | fetchResult => exact execFetchResult_soundLaw h e
  | writeIssue => exact h.of_kept (execWriteIssue_kept e)
  | writeComplete => exact h.of_kept (execWriteComplete_kept e)
  | storeFault => exact h.of_kept (execStoreFault_kept e)
  | synchronise => cases e; exact h.of_kept (.ite fun hl => .onLine (by rw [hl]; decide))
  | disturbance => cases e; exact h.of_kept (.ite fun hl => .onLine (by rw [hl]; decide))
  | frameStart => exact h.of_kept (execFrameStart_kept e)
  | frameReceived f => exact h.of_kept (execFrameReceived_kept f e)
  | stretchExpiry =>
    cases e; exact h.of_kept (.ite fun _ => .outside (fun _ hl => (Link.withdrawHold_line s.link).trans hl))
  | frameNotAccepted cause => exact h.of_kept (execFrameNotAccepted_kept cause e)
  | linkFaultTimerExpiry => cases e; exact h.of_kept (.ite fun _ => .outside (fun _ h => h))
  | brokenFrame => exact h.of_kept (execBrokenFrame_kept e)
  | linkStall header => exact h.of_kept (execLinkStall_kept header e)
  | cancelFrame => cases e; exact acceptFrame_soundLaw h 0
  | recallFrame => cases e; exact acceptFrame_soundLaw h 1
  | captureFrame => cases e; exact acceptFrame_soundLaw h 2
  | handsetFrame => cases e; exact acceptFrame_soundLaw h 3
  | toggleFrame => cases e; exact acceptFrame_soundLaw h 4
  | tuttiFrame => cases e; exact acceptFrame_soundLaw h 5
  | stageFrame => cases e; exact acceptFrame_soundLaw h 6
  | setterFrame => cases e; exact acceptFrame_soundLaw h 7
  | levelFrame => cases e; exact acceptFrame_soundLaw h 8
  | announceFrame => cases e; exact acceptFrame_soundLaw h 9
  | serviceByteArrival b framed => cases e; exact h.of_kept (.outside (fun _ h => h))
  | gapTimerExpiry =>
    cases e
    split
    · exact endCommand_soundLaw h _ _
    · exact h.of_kept (.outside (fun _ h => h))
    · exact h
  | ident => exact exec_service_soundLaw h .ident rfl e
  | status group => exact exec_service_soundLaw h (.status group) rfl e
  | channels => exact exec_service_soundLaw h .channels rfl e
  | journal k => exact exec_service_soundLaw h (.journal k) rfl e
  | slotRead level slot => exact exec_service_soundLaw h (.slotRead level slot) rfl e
  | slotWrite level slot data => exact exec_service_soundLaw h (.slotWrite level slot data) rfl e
  | imageRead offset length => exact exec_service_soundLaw h (.imageRead offset length) rfl e
  | imageWrite offset data => exact exec_service_soundLaw h (.imageWrite offset data) rfl e
  | serviceLock level state => exact exec_service_soundLaw h (.serviceLock level state) rfl e
  | restart => exact exec_service_soundLaw h .restart rfl e
  | replyEnd => cases e; exact h.of_kept (.ite fun _ => .outside (fun _ h => h))
  | flashTimerExpiry f =>
    cases e
    split <;> exact h.of_kept (.outside (fun _ h => h))
  | startReceiving => cases e; exact h.of_kept (.ite fun hl => .onLine (by rw [hl]; decide))
  | arbitrationLost => cases e; exact h.of_kept (.ite fun hl => .onLine (by rw [hl.1]; decide))
  | stopWithoutDelivery => exact h.of_kept (execStopWithoutDelivery_kept e)

/-- Settles O9: a step runs the front command, or the station goes on by itself and leaves what is heard alone. -/
theorem stepKeepsSoundLaw : Obligations.StepKeepsSoundLaw := by
  unfold Obligations.StepKeepsSoundLaw
  intro s t h e
  unfold step at e
  split at e
  · exact exec_soundLaw (h.of_kept (.outside (fun _ h => h))) _ e
  · cases e; exact h.of_kept .idle

end Sys2Proof.Machine
end

section
/-! PROOF. Channel commands: the cold reset, the composed set, the relay port, and what a debounced change does by the
mode and the channel's type (R5–R19, R220). -/

namespace Sys2Proof.Machine

variable {s : State}

/-! ### The cold reset -/

/-- A cut write leaves the memory outside its target (R73). -/
theorem tearWrite_memRead (e : WriteEntry) (a : Nat)
    (h : a < targetAddress e.target ∨ targetAddress e.target + e.data.length ≤ a) :
    memRead (tearWrite e s).memory a = memRead s.memory a := by
  refine memRead_memWriteRange_other _ _ _ _ ?_
  rwa [tornBytes_length, memReadRange_length, min_self]

/-- The write in flight at a cold reset may leave its target torn, and nothing else (R73). -/
theorem cutWrite_frame (s : State) :
    cutWrite s = { s with memory := (cutWrite s).memory, torn := (cutWrite s).torn } := by
  unfold cutWrite
  split
  · rfl
  · split <;> rfl

theorem cutWrite_memRead (a : Nat)
    (h : ∀ e, s.store.queue.head? = some e → e.inFlight = true →
      a < targetAddress e.target ∨ targetAddress e.target + e.data.length ≤ a) :
    memRead (cutWrite s).memory a = memRead s.memory a := by
  unfold cutWrite
  split
  · rfl
  · rename_i e rest hq
    split
    · rename_i hf
      exact tearWrite_memRead e a (h e (by rw [hq]; rfl) hf)
    · rfl

/-- Settles O15: the reset event is the reset values over the state with the write in flight cut. -/
theorem coldResetResetsEveryBlock : Obligations.ColdResetResetsEveryBlock := by
  unfold Obligations.ColdResetResetsEveryBlock
  intro s
  refine ⟨coldReset s, rfl, ?_, fun a h => cutWrite_memRead a h⟩
  unfold coldReset
  rw [cutWrite_frame]; rfl

/-! ### The composed set and the relay port -/

/-- A channel is crescendo-added where the stage has reached its entry and not its exit (R114). -/
theorem crescAdded_iff (p : Params) (program : Fin 4) (stage : Fin 60) (c : Chan) :
    crescAdded p program stage c = true ↔
      1 ≤ (p.crescendo[program][c]).1.val ∧ (p.crescendo[program][c]).1.val ≤ stage.val
        ∧ ((p.crescendo[program][c]).2.val = 0 ∨ stage.val < (p.crescendo[program][c]).2.val) := by
  simp only [crescAdded, Bool.and_eq_true, Bool.or_eq_true, decide_eq_true_eq, and_assoc, ne_eq, Fin.ext_iff,
    Fin.le_def, Fin.lt_def, Nat.one_le_iff_ne_zero, Fin.val_zero]

/-- Settles O18, from what speaks in SAFE and outside it. -/
theorem composedSetIsAsStated : Obligations.ComposedSetIsAsStated := by
  unfold Obligations.ComposedSetIsAsStated
  intro s c entry leave
  rw [composedSet_has]
  refine ⟨fun hm => speaks_safe hm c, fun hm => ?_⟩
  have outside : s.view.mode ≠ .safe := by rcases hm with hm | hm <;> rw [hm] <;> decide
  rw [speaks_outsideSafe outside, Bool.or_eq_true, Bool.or_eq_true, Bool.and_eq_true, crescAdded_iff, or_assoc,
    and_comm (a := s.view.tutti = true)]

/-- An unchanged set starts no shift (R17). -/
theorem Relay.compose_same (r : Relay) : r.compose r.speaking = r := if_pos rfl

/-- A changed set starts a shift on an idle port (R18). -/
theorem Relay.compose_idle {r : Relay} {x : ChanSet} (hx : x ≠ r.speaking) (hs : r.shift = none) :
    r.compose x = { r with speaking := x, shift := some x, shiftUs := 0 } := by
  unfold Relay.compose; rw [if_neg hx, hs]

/-- A changed set asks a shifting port for a further shift (R19). -/
theorem Relay.compose_shifting {r : Relay} {x : ChanSet} (hx : x ≠ r.speaking) (hs : r.shift ≠ none) :
    r.compose x = { r with speaking := x, further := true } := by
  unfold Relay.compose
  rw [if_neg hx]
  split
  · contradiction
  · rfl

/-- The end of a shift (R18, R19). -/
theorem Relay.shiftEnd_of_shifting {r : Relay} {x : ChanSet} (h : r.shift = some x) :
    r.shiftEnd = { r with
      pipes := x
      lastLatched := some x
      further := false
      shift := if r.further = true ∧ r.speaking ≠ x then some r.speaking else none
      shiftUs := 0 } := by
  unfold Relay.shiftEnd
  rw [h]
  simp only [Bool.and_eq_true, decide_eq_true_eq]

/-- Settles O22, by the port's state and the end of its shift. -/
theorem shiftEndLatchesTheShiftSet : Obligations.ShiftEndLatchesTheShiftSet := by
  unfold Obligations.ShiftEndLatchesTheShiftSet
  refine ⟨fun r x => ⟨r.compose_same, Relay.compose_idle, Relay.compose_shifting⟩, fun s x h => ?_⟩
  refine ⟨{ s with relay := s.relay.shiftEnd }, rfl, rfl, ?_⟩
  rw [Relay.shiftEnd_of_shifting h]
  exact ⟨rfl, rfl, rfl, rfl, rfl⟩

/-! ### Debounced changes -/

/-- A debounced change is one only from the load event on and to another value (R3, R4). -/
theorem exec_debouncedChange {c : Chan} {on : Bool} (hs : sampling s = true) (hc : s.channels[c].contact ≠ on) :
    exec (.debouncedChange c on) s = .next (debouncedChange c on s) := by
  show Host.Outcome.next _ = _
  rw [if_pos (by simp only [hs, Bool.true_and, decide_eq_true_eq]; exact hc)]

/-- In RUN and LISTEN a debounced change goes by the channel's type (R5). -/
theorem debouncedChange_working (hm : s.view.mode = .run ∨ s.view.mode = .listen) (c : Chan) (on : Bool) :
    debouncedChange c on s = workingChange c on s := by
  unfold debouncedChange
  rcases hm with hm | hm <;> rw [hm]

theorem debouncedChange_safe (hm : s.view.mode = .safe) (c : Chan) (on : Bool) :
    debouncedChange c on s = recompose (setChannel c (s.channels[c].follow on) s) := by
  unfold debouncedChange; rw [hm]

theorem debouncedChange_starting (hm : s.view.mode = .starting) (c : Chan) (on : Bool) :
    debouncedChange c on s =
      setChannel c (if s.channels[c].type = .plain then s.channels[c].follow on
        else s.channels[c].withContact on) s := by
  unfold debouncedChange; rw [hm]

theorem workingChange_plain {c : Chan} (ht : s.channels[c].type = .plain) (on : Bool) :
    workingChange c on s = recompose (setChannel c (s.channels[c].follow on) s) := by
  unfold workingChange; dsimp only; rw [ht]

theorem workingChange_moved {c : Chan} (ht : s.channels[c].type = .moved) (on : Bool) :
    workingChange c on s = movedChange c on s := by
  unfold workingChange; dsimp only; rw [ht]

theorem workingChange_press {c : Chan} (ht : s.channels[c].type = .lit) :
    workingChange c true s = litPress c s := by
  unfold workingChange; dsimp only; rw [ht]; rfl

theorem workingChange_release {c : Chan} (ht : s.channels[c].type = .lit) :
    workingChange c false s = setChannel c (s.channels[c].withContact false) s := by
  unfold workingChange; dsimp only; rw [ht]; rfl

/-- A MOVED channel at rest, or with its move queued, is moved by hand (R7). -/
theorem movedChange_hand {c : Chan} (hd : s.channels[c].drive = .idle ∨ s.channels[c].drive = .queued) (on : Bool) :
    movedChange c on s = handMove c on s := by
  unfold movedChange; dsimp only
  rcases hd with hd | hd <;> rw [hd]

/-- A driven one keeps its registered state (R8, R54). -/
theorem movedChange_driven {c : Chan} (hi : s.channels[c].drive ≠ .idle) (hq : s.channels[c].drive ≠ .queued)
    (on : Bool) :
    movedChange c on s = setChannel c { s.channels[c].withContact on with
      drive := overdriven s.params.tover on s.channels[c].drive } s := by
  unfold movedChange
  dsimp only
  split
  · contradiction
  · contradiction
  · rfl

theorem othersUnchanged_setChannel (c : Chan) (x : Channel) (s : State) : OthersUnchanged c s (setChannel c x s) :=
  fun _ hd => setChannel_other hd x s

/-- Settles O20, by the station mode. -/
theorem plainChannelFollows : Obligations.PlainChannelFollows := by
  unfold Obligations.PlainChannelFollows
  intro s c on x hs hc
  refine ⟨fun hm => ?_, fun hm => ?_⟩
  · have followed : debouncedChange c on s = recompose (setChannel c (x.follow on) s) := by
      rcases hm with hm | ⟨ht, hm⟩
      · exact debouncedChange_safe hm c on
      · rw [debouncedChange_working hm, workingChange_plain ht]
    exact ⟨recompose (setChannel c (x.follow on) s), (exec_debouncedChange hs hc).trans (congrArg _ followed), rfl,
      setChannel_at c _ s, othersUnchanged_setChannel c _ s⟩
  · refine ⟨_, (exec_debouncedChange hs hc).trans (congrArg _ (debouncedChange_starting hm c on)), rfl, ?_,
      othersUnchanged_setChannel c _ s⟩
    refine (setChannel_at c _ s).trans ?_
    show (if x.type = .plain then x.follow on else x.withContact on) = _
    split <;> rfl

/-- The first change to the pulse's direction starts the overdrive, or ends the pulse where Tover is 0 (R54, R55). -/
theorem overdriven_first (tover : Nat) (on : Bool) (a : Attempt) (p : Nat) :
    overdriven tover on (.energized on a p none) =
      if tover = 0 then .settling on a 0 else .energized on a p (some 0) := if_pos rfl

/-- No other change of the contact touches the drive state (R8, R54). -/
theorem overdriven_other (tover : Nat) (on : Bool) (d : Drive) (h : ∀ a p, d ≠ .energized on a p none) :
    overdriven tover on d = d := by
  unfold overdriven
  split
  · rename_i dir a p
    rw [if_neg (fun hd => h a p (by rw [hd]))]
  · rfl

/-- Settles O21: the record takes the contact, and its drive state is the overdriven one. -/
theorem drivenChannelKeepsItsRegistration : Obligations.DrivenChannelKeepsItsRegistration := by
  unfold Obligations.DrivenChannelKeepsItsRegistration
  intro s c on x hs hc ht hi hq hm
  have driven : debouncedChange c on s = setChannel c { x.withContact on with
      drive := overdriven s.params.tover on x.drive } s := by
    rw [debouncedChange_working hm, workingChange_moved ht, movedChange_driven hi hq]
  refine ⟨_, (exec_debouncedChange hs hc).trans (congrArg _ driven), rfl, ?_, othersUnchanged_setChannel c _ s,
    fun a p hd => ?_, fun hd => ?_⟩
  all_goals rw [Fin.getElem_fin, setChannel_at]
  · rfl
  · show overdriven s.params.tover on x.drive = _
    rw [hd, overdriven_first]
  · exact overdriven_other _ _ _ hd

end Sys2Proof.Machine
end

section
/-! PROOF. The DRIVING operation's counts and closing, the hand-over of a frame, and the hand moves, LIT presses and
STUCK verdicts that use them (R7, R10, R38, R60, R67, R171). -/

namespace Sys2Proof.Machine

variable {s : State}

/-! ### Counts and closing of the DRIVING operation -/

/-- Whether a channel is outstanding is seen in the channel records alone (R67). -/
theorem anyOutstanding_congr {t : State} (h : t.channels = s.channels) : anyOutstanding t = anyOutstanding s := by
  unfold anyOutstanding; rw [h]

/-- Counting writes nothing in the journal but records (R38, R206). -/
theorem countDriving_journal (f : Counts → Counts) (s : State) :
    (countDriving f s).journal = { s.journal with records := (countDriving f s).journal.records } := by
  unfold countDriving
  split
  · rfl
  · exact Journal.update_frame _ _ _

/-- Closing writes nothing in the journal but records (R204). -/
theorem closeDriving_journal (st : RecState) (s : State) :
    (closeDriving st s).journal = { s.journal with records := (closeDriving st s).journal.records } := by
  unfold closeDriving
  split
  · rfl
  · exact Journal.update_frame _ _ _

theorem closingCheck_journal (s : State) :
    (closingCheck s).journal = { s.journal with records := (closingCheck s).journal.records } := by
  unfold closingCheck
  split
  · rfl
  · exact closeDriving_journal _ s

/-- The closing check ends the DRIVING operation where nothing is outstanding, and leaves the list (R67). -/
theorem closingCheck_ops (s : State) :
    (closingCheck s).ops =
      { list := s.ops.list, driving := if anyOutstanding s then s.ops.driving else none } := by
  unfold closingCheck
  split <;> rfl

/-- Counting changes the DRIVING operation and records alone. -/
theorem countDriving_eq (f : Counts → Counts) (s : State) :
    countDriving f s = { s with
      ops := { s.ops with driving := (countDriving f s).ops.driving }
      journal := { s.journal with records := (countDriving f s).journal.records } } := by
  have frame := countDriving_frame s f
  rwa [countDriving_journal] at frame

/-- The closing check changes the DRIVING operation and records alone. -/
theorem closingCheck_eq (s : State) :
    closingCheck s = { s with
      ops := { s.ops with driving := (closingCheck s).ops.driving }
      journal := { s.journal with records := (closingCheck s).journal.records } } := by
  have frame := closingCheck_frame s
  have list : (closingCheck s).ops = { s.ops with driving := (closingCheck s).ops.driving } := by
    rw [closingCheck_ops]
  rwa [closingCheck_journal, list] at frame

/-- Counting and then the closing check change the DRIVING operation and records alone. -/
theorem closingCheck_countDriving_eq (f : Counts → Counts) (s : State) :
    closingCheck (countDriving f s) = { s with
      ops := { s.ops with driving := (closingCheck (countDriving f s)).ops.driving }
      journal := { s.journal with records := (closingCheck (countDriving f s)).journal.records } } := by
  have checked := closingCheck_eq (countDriving f s)
  generalize (closingCheck (countDriving f s)).ops.driving = d at checked ⊢
  generalize (closingCheck (countDriving f s)).journal.records = r at checked ⊢
  rw [checked, countDriving_eq]

/-- The closing of the DRIVING operation closes its OPEN record (R204). -/
theorem closeDriving_record_at {st : RecState} {d : Driving} {p : Fin 32} {r : Record}
    (hd : s.ops.driving = some d) (hr : openRecordAt s d.record p r) :
    (closeDriving st s).journal.records[p] = some (r.closedAs st none s.journal.timeTag) := by
  obtain ⟨ref, rec, opened⟩ := hr
  unfold closeDriving
  simp only [hd]
  exact Journal.close_at _ _ _ _ _ _ ref rec opened

/-- A record that the DRIVING operation does not refer to is no part of its closing (R204). -/
theorem closeDriving_record_other {p : Fin 32} (st : RecState)
    (h : ∀ d, s.ops.driving = some d → d.record ≠ some p) :
    (closeDriving st s).journal.records[p] = s.journal.records[p] := by
  unfold closeDriving
  dsimp only
  split
  · rfl
  · rename_i d hd
    exact Journal.close_other _ _ _ _ _ (h d hd)

theorem closingCheck_record_other {p : Fin 32} (h : ∀ d, s.ops.driving = some d → d.record ≠ some p) :
    (closingCheck s).journal.records[p] = s.journal.records[p] := by
  unfold closingCheck
  split
  · rfl
  · exact closeDriving_record_other .closed h

/-- A dropped reference does not name the position (R208). -/
theorem dropRef_ne (p : Fin 32) (r : Option (Fin 32)) : dropRef p r ≠ some p := by
  unfold dropRef
  split
  · simp
  · assumption

/-- After a record has been written, the DRIVING operation does not refer to its position (R208). -/
theorem writeRecord_driving_ne (r : Record) (s : State) (d : Driving)
    (h : (writeRecord r s).ops.driving = some d) : d.record ≠ some s.journal.next := by
  rw [writeRecord_ops] at h
  obtain ⟨d', -, rfl⟩ := Option.map_eq_some_iff.1 h
  exact dropRef_ne _ _

/-! ### Hand-overs -/

/-- In RUN a frame with a place changes the link (R149, R169). -/
theorem handOver_taken {f : TxFrame} {l : Link} (hm : s.view.mode = .run) (h : takenLink f s = some l) :
    handOver f s = setLink l s := by
  unfold handOver; rw [if_pos hm, h]

/-- In RUN a frame without a place is lost with TX_FULL (R171). -/
theorem handOver_lost {f : TxFrame} (hm : s.view.mode = .run) (h : takenLink f s = none) :
    handOver f s = reportFault .txFull (headerByte f.kind s.start.station) 0 0 0 s := by
  unfold handOver; rw [if_pos hm, h]

/-- Where a frame goes is seen in link, pins, image values and view alone (R149, R169). -/
theorem takenLink_congr {t : State} (f : TxFrame) (hl : t.link = s.link) (hn : t.pins = s.pins)
    (hp : t.params = s.params) (hv : t.view = s.view) : takenLink f t = takenLink f s := by
  unfold takenLink startsAtOnce quietForStart lckHigh ldaHigh startedLink startPayload
  rw [hl, hn, hp, hv]

/-! ### Hand moves and LIT presses -/

/-- The station at a hand move, before the hand-over (R7). -/
def movedByHand (c : Chan) (on : Bool) (s : State) : State :=
  let s1 := setChannel c { s.channels[c].follow on with drive := .idle } s
  recompose
    (if s.channels[c].drive = .queued then closingCheck (countDriving Counts.addYielded (removeMove c s1)) else s1)

theorem handMove_eq (c : Chan) (on : Bool) (s : State) :
    handMove c on s = handOver (.handset s.channels[c].stop on) (movedByHand c on s) := rfl

theorem movedByHand_idle {c : Chan} (hq : s.channels[c].drive ≠ .queued) (on : Bool) :
    movedByHand c on s = recompose (setChannel c { s.channels[c].follow on with drive := .idle } s) := by
  unfold movedByHand; dsimp only; rw [if_neg hq]

theorem movedByHand_queued {c : Chan} (hq : s.channels[c].drive = .queued) (on : Bool) :
    movedByHand c on s = recompose (closingCheck (countDriving Counts.addYielded
      (removeMove c (setChannel c { s.channels[c].follow on with drive := .idle } s)))) := by
  unfold movedByHand; dsimp only; rw [if_pos hq]

theorem movedByHand_relay (c : Chan) (on : Bool) (s : State) :
    (movedByHand c on s).relay = s.relay.compose (composedSet (movedByHand c on s)) := by
  unfold movedByHand
  dsimp only
  split <;> simp <;> rfl

/-- All that a hand move changes before its hand-over (R7). -/
theorem movedByHand_frame (c : Chan) (on : Bool) (s : State) :
    movedByHand c on s = { s with
      channels := s.channels.set c { s.channels[c].follow on with drive := .idle }
      relay := s.relay.compose (composedSet (movedByHand c on s))
      drive := { s.drive with queue :=
        if s.channels[c].drive = .queued then s.drive.queue.filter (fun m => decide (m.chan ≠ c))
        else s.drive.queue }
      ops := { s.ops with driving := (movedByHand c on s).ops.driving }
      journal := { s.journal with records := (movedByHand c on s).journal.records } } := by
  rw [← movedByHand_relay]
  by_cases hq : s.channels[c].drive = .queued
  · rw [if_pos hq, movedByHand_queued hq]
    set v := removeMove c (setChannel c { s.channels[c].follow on with drive := .idle } s)
    have counted := closingCheck_countDriving_eq Counts.addYielded v
    generalize closingCheck (countDriving Counts.addYielded v) = w at counted ⊢
    show { w with relay := (recompose w).relay } = _
    generalize (recompose w).relay = r
    rw [counted]; rfl
  · rw [if_neg hq, movedByHand_idle hq]; rfl

/-- A yielded move is counted, and the DRIVING operation closes with the last outstanding channel (R38, R67). -/
theorem movedByHand_driving {c : Chan} (hq : s.channels[c].drive = .queued) (on : Bool) :
    (movedByHand c on s).ops.driving = if anyOutstanding (movedByHand c on s) then
      s.ops.driving.map (fun d => { d with counts := d.counts.addYielded }) else none := by
  rw [movedByHand_queued hq, recompose_ops, closingCheck_ops,
    anyOutstanding_congr (s := closingCheck _) (recompose_channels _), anyOutstanding_congr (closingCheck_channels _)]
  rfl

/-- The channel records after a hand move. -/
theorem movedByHand_channels (c : Chan) (on : Bool) (s : State) :
    (movedByHand c on s).channels = (setChannel c { s.channels[c].follow on with drive := .idle } s).channels := by
  rw [movedByHand_frame]; rfl

/-- Nothing that a hand-over looks at is changed by the move before it. -/
theorem movedByHand_takenLink (c : Chan) (on : Bool) (f : TxFrame) (s : State) :
    takenLink f (movedByHand c on s) = takenLink f s := by
  apply takenLink_congr <;> rw [movedByHand_frame]

/-- A hand move in RUN whose HANDSET has a place, or in LISTEN (R7, R171). -/
theorem handMove_taken {c : Chan} {on : Bool} {l : Link}
    (h : s.view.mode = .run ∧ takenLink (.handset s.channels[c].stop on) s = some l
      ∨ s.view.mode = .listen ∧ l = s.link) :
    handMove c on s = setLink l (movedByHand c on s) := by
  have mode : (movedByHand c on s).view = s.view := by rw [movedByHand_frame]
  rw [handMove_eq]
  rcases h with ⟨hm, ht⟩ | ⟨hm, rfl⟩
  · exact handOver_taken (by rw [mode, hm]) (by rw [movedByHand_takenLink, ht])
  · rw [handOver_outsideRun _ (by rw [mode, hm]; decide)]
    have link : (movedByHand c on s).link = s.link := by rw [movedByHand_frame]
    rw [← link]; rfl

/-- A hand move in RUN whose HANDSET has no place (R7, R171). -/
theorem handMove_lost {c : Chan} {on : Bool} (hm : s.view.mode = .run)
    (h : takenLink (.handset s.channels[c].stop on) s = none) :
    handMove c on s = reportFault .txFull (headerByte 3 s.start.station) 0 0 0 (movedByHand c on s) := by
  have view : (movedByHand c on s).view = s.view := by rw [movedByHand_frame]
  have start : (movedByHand c on s).start = s.start := by rw [movedByHand_frame]
  rw [handMove_eq, handOver_lost (by rw [view, hm]) (by rw [movedByHand_takenLink, h]), start]; rfl

/-- A debounced change of a MOVED channel at rest, or with its move queued, is a hand move (R5, R7). -/
theorem exec_handMove {c : Chan} {on : Bool} (hs : sampling s = true) (hc : s.channels[c].contact ≠ on)
    (ht : s.channels[c].type = .moved) (hd : s.channels[c].drive = .idle ∨ s.channels[c].drive = .queued)
    (hm : s.view.mode = .run ∨ s.view.mode = .listen) :
    exec (.debouncedChange c on) s = .next (handMove c on s) := by
  rw [exec_debouncedChange hs hc, debouncedChange_working hm, workingChange_moved ht, movedChange_hand hd]

/-- The records after a hand move are the moved one and the others as they were. -/
theorem movedByHand_records (c : Chan) (on : Bool) (s : State) :
    (movedByHand c on s).channels[c] = { s.channels[c].follow on with drive := .idle }
      ∧ OthersUnchanged c s (movedByHand c on s) := by
  unfold OthersUnchanged
  rw [movedByHand_channels]
  exact ⟨setChannel_at c _ s, othersUnchanged_setChannel c _ s⟩

/-- The station after a hand move whose HANDSET takes the link, or is not handed over. -/
theorem setLink_movedByHand_frame (c : Chan) (on : Bool) (l : Link) (s : State) :
    let t := setLink l (movedByHand c on s)
    t = { s with
      channels := t.channels
      relay := s.relay.compose (composedSet t)
      drive := { s.drive with queue :=
        if s.channels[c].drive = .queued then s.drive.queue.filter (fun m => decide (m.chan ≠ c))
        else s.drive.queue }
      ops := { s.ops with driving := t.ops.driving }
      journal := t.journal
      link := l } := by
  intro t
  have set : composedSet t = composedSet (movedByHand c on s) := rfl
  have frame := movedByHand_frame c on s
  rw [set]
  generalize composedSet (movedByHand c on s) = x at frame ⊢
  show setLink l (movedByHand c on s) = _
  rw [show t = setLink l (movedByHand c on s) from rfl, frame]; rfl

/-- The station after a hand move whose HANDSET is lost. -/
theorem lost_movedByHand_frame (c : Chan) (on : Bool) (b : Byte) (s : State) :
    let t := reportFault .txFull b 0 0 0 (movedByHand c on s)
    t = { s with
      channels := t.channels
      relay := s.relay.compose (composedSet t)
      drive := { s.drive with queue :=
        if s.channels[c].drive = .queued then s.drive.queue.filter (fun m => decide (m.chan ≠ c))
        else s.drive.queue }
      ops := t.ops
      store := s.store.dropRef s.journal.next
      journal := t.journal } := by
  intro t
  have set : composedSet t = composedSet (movedByHand c on s) := rfl
  have frame := movedByHand_frame c on s
  rw [set]
  generalize composedSet (movedByHand c on s) = x at frame ⊢
  show reportFault .txFull b 0 0 0 (movedByHand c on s) = _
  rw [show t = reportFault .txFull b 0 0 0 (movedByHand c on s) from rfl, frame]; rfl

/-- A FAULT record stands at the position that was next, under its code and parameter (R209). -/
theorem reportFault_record (k : FaultCode) (a b c d : Byte) (s : State) {p : Fin 32} (hp : s.journal.next = p) :
    ((reportFault k a b c d s).journal.records[p]).map (fun r => r.subject) = some (.fault k a b c d) := by
  subst hp
  show ((s.journal.push (faultRecord k a b c d s)).records[s.journal.next]).map _ = _
  rw [Journal.push_at]; rfl

/-- The station at a LIT press, before the hand-over (R10). -/
def litPressed (c : Chan) (s : State) : State :=
  recompose (setChannel c
    { s.channels[c].withContact true with registered := !s.channels[c].registered } s)

theorem litPress_eq (c : Chan) (s : State) :
    litPress c s = handOver (.handset s.channels[c].stop (!s.channels[c].registered)) (litPressed c s) := rfl

theorem litPressed_takenLink (c : Chan) (f : TxFrame) (s : State) : takenLink f (litPressed c s) = takenLink f s :=
  takenLink_congr f rfl rfl rfl rfl

/-- A LIT press in RUN whose HANDSET has a place, or in LISTEN (R10, R171). -/
theorem litPress_taken {c : Chan} {l : Link}
    (h : s.view.mode = .run ∧ takenLink (.handset s.channels[c].stop (!s.channels[c].registered)) s = some l
      ∨ s.view.mode = .listen ∧ l = s.link) :
    litPress c s = setLink l (litPressed c s) := by
  rw [litPress_eq]
  rcases h with ⟨hm, ht⟩ | ⟨hm, rfl⟩
  · exact handOver_taken hm (by rw [litPressed_takenLink, ht])
  · have listening : (litPressed c s).view.mode ≠ .run := fun h => nomatch hm.symm.trans h
    exact handOver_outsideRun _ listening

/-- A LIT press in RUN whose HANDSET has no place (R10, R171). -/
theorem litPress_lost {c : Chan} (hm : s.view.mode = .run)
    (h : takenLink (.handset s.channels[c].stop (!s.channels[c].registered)) s = none) :
    litPress c s = reportFault .txFull (headerByte 3 s.start.station) 0 0 0 (litPressed c s) := by
  rw [litPress_eq]
  exact handOver_lost hm (by rw [litPressed_takenLink, h])

/-- A debounced change to pressed of a LIT channel is a LIT press (R5, R10). -/
theorem exec_litPress {c : Chan} (hs : sampling s = true) (hc : s.channels[c].contact = false)
    (ht : s.channels[c].type = .lit) (hm : s.view.mode = .run ∨ s.view.mode = .listen) :
    exec (.debouncedChange c true) s = .next (litPress c s) := by
  rw [exec_debouncedChange hs (by rw [hc]; decide), debouncedChange_working hm, workingChange_press ht]

/-- Settles O19: by the channel's type, and by where the HANDSET goes. -/
theorem handMovesAndLitPresses : Obligations.HandMovesAndLitPresses := by
  unfold Obligations.HandMovesAndLitPresses
  constructor
  · intro s c on x y queue hs ht hd hc
    obtain ⟨record, others⟩ := movedByHand_records c on s
    refine ⟨fun l hl => ?_, fun hm hl => ?_⟩
    · have working : s.view.mode = .run ∨ s.view.mode = .listen := hl.imp And.left And.left
      refine ⟨_, (exec_handMove hs hc ht hd working).trans (congrArg _ (handMove_taken hl)),
        setLink_movedByHand_frame c on l s, record, others, fun hi => ?_, fun hq => movedByHand_driving hq on⟩
      have notQueued : s.channels[c].drive ≠ .queued := fun hq => nomatch hi.symm.trans hq
      rw [movedByHand_idle notQueued]
      exact ⟨rfl, rfl⟩
    · have journal : (movedByHand c on s).journal
          = { s.journal with records := (movedByHand c on s).journal.records } := by
        conv_lhs => rw [movedByHand_frame]
      refine ⟨_, (exec_handMove hs hc ht hd (.inl hm)).trans (congrArg _ (handMove_lost hm hl)),
        lost_movedByHand_frame c on _ s, record, others, ?_, ?_⟩
      · show (movedByHand c on s).journal.number + 1 = _
        rw [journal]
      · have next : (movedByHand c on s).journal.next = s.journal.next := by rw [journal]
        exact reportFault_record _ _ _ _ _ _ next
  · intro s c x y hs ht
    refine ⟨fun l hc hl => ?_, fun hc hm hl => ?_, fun hc hm => ?_⟩
    · have working : s.view.mode = .run ∨ s.view.mode = .listen := hl.imp And.left And.left
      exact ⟨_, (exec_litPress hs hc ht working).trans (congrArg _ (litPress_taken hl)), rfl, setChannel_at c _ s,
        othersUnchanged_setChannel c _ s⟩
    · exact ⟨_, (exec_litPress hs hc ht (.inl hm)).trans (congrArg _ (litPress_lost hm hl)), rfl,
        setChannel_at c _ s, othersUnchanged_setChannel c _ s, rfl⟩
    · have release : exec (.debouncedChange c false) s = .next (setChannel c (x.withContact false) s) := by
        rw [exec_debouncedChange hs (by rw [hc]; decide), debouncedChange_working hm, workingChange_release ht]
      exact ⟨_, release, rfl, setChannel_at c _ s, othersUnchanged_setChannel c _ s⟩

end Sys2Proof.Machine
end

section
/-! PROOF. The STUCK verdict (R60). -/

namespace Sys2Proof.Machine

variable {s : State}

/-- The station at a STUCK verdict once its fault is counted, before the record is written (R38, R60). -/
def stuckCounted (c : Chan) (s : State) : State :=
  countDriving (Counts.addFault c)
    (recompose (setChannel c
      { s.channels[c] with drive := .idle, registered := s.channels[c].contact, fault := true } s))

theorem stuckVerdict_eq (c : Chan) (s : State) :
    stuckVerdict c s = closingCheck (reportFault .stuck (byteOf c.val) 0 0 0 (stuckCounted c s)) := rfl

/-- Where the next record goes is not changed by the count. -/
theorem stuckCounted_next (c : Chan) (s : State) : (stuckCounted c s).journal.next = s.journal.next := by
  unfold stuckCounted; rw [countDriving_journal]; rfl

theorem stuckCounted_number (c : Chan) (s : State) : (stuckCounted c s).journal.number = s.journal.number := by
  unfold stuckCounted; rw [countDriving_journal]; rfl

/-- The records after the verdict (R60). -/
theorem stuckVerdict_channels (c : Chan) (s : State) :
    (stuckVerdict c s).channels = (setChannel c
      { s.channels[c] with drive := .idle, registered := s.channels[c].contact, fault := true } s).channels := by
  rw [stuckVerdict_eq, closingCheck_channels]; rfl

/-- All that a verdict changes (R60, R209). -/
theorem stuckVerdict_frame (c : Chan) (s : State) :
    stuckVerdict c s = { s with
      channels := (stuckVerdict c s).channels
      relay := s.relay.compose (composedSet (stuckVerdict c s))
      ops := (stuckVerdict c s).ops
      store := s.store.dropRef s.journal.next
      journal := (stuckVerdict c s).journal } := by
  have set : composedSet (stuckVerdict c s) = composedSet (stuckCounted c s) :=
    composedSet_congr (by rw [stuckVerdict_channels]; rfl) (by rw [stuckVerdict_eq]; simp)
      (by rw [stuckVerdict_eq]; simp)
  have store : (stuckCounted c s).store.dropRef (stuckCounted c s).journal.next = s.store.dropRef s.journal.next := by
    rw [stuckCounted_next]; rfl
  rw [set, ← store, stuckVerdict_eq, closingCheck_frame]; rfl

/-- The verify of a second failed attempt at an unchanged target is a STUCK verdict (R57, R60). -/
theorem exec_verify_stuck {c : Chan} {dir : Bool} {n : Nat} (hd : s.channels[c].drive = .settling dir .second n)
    (hc : s.channels[c].contact ≠ s.channels[c].registered) (hr : s.channels[c].registered = dir) :
    exec (.verify c) s = .next (stuckVerdict c s) := by
  show execVerify c s = _
  unfold execVerify verifyMove
  rw [hd]
  dsimp only
  rw [if_neg hc, if_pos hr]

/-- The DRIVING operation after the verdict: its fault list has taken the channel, unless it has closed (R38, R67). -/
theorem stuckVerdict_driving (c : Chan) (s : State) :
    (stuckVerdict c s).ops.driving = if anyOutstanding (stuckVerdict c s) then
      (s.ops.driving.map (fun d => { d with counts := d.counts.addFault c })).map
        (fun d => { d with record := dropRef s.journal.next d.record })
    else none := by
  rw [anyOutstanding_congr (s := reportFault .stuck (byteOf c.val) 0 0 0 (stuckCounted c s))
    (by rw [stuckVerdict_eq, closingCheck_channels]), stuckVerdict_eq, closingCheck_ops, ← stuckCounted_next c s]
  rfl

/-- Settles O38: the verdict's frame, its two records and the closing check. -/
theorem stuckVerdictTakesTheContact : Obligations.StuckVerdictTakesTheContact := by
  unfold Obligations.StuckVerdictTakesTheContact
  intro s c dir n hd hc hr
  have record : (stuckVerdict c s).channels[c] = { s.channels[c] with
      drive := .idle, registered := s.channels[c].contact, fault := true } := by
    rw [stuckVerdict_channels]; exact setChannel_at c _ s
  have others : OthersUnchanged c s (stuckVerdict c s) := by
    unfold OthersUnchanged
    rw [stuckVerdict_channels]; exact othersUnchanged_setChannel c _ s
  refine ⟨stuckVerdict c s, exec_verify_stuck hd hc hr, stuckVerdict_frame c s, record, others, ?_, ?_, ?_,
    fun ho => ?_, fun ho => ?_⟩
  · have kept := closingCheck_record_other (s := reportFault .stuck (byteOf c.val) 0 0 0 (stuckCounted c s))
      (p := s.journal.next) (fun d hd => stuckCounted_next c s ▸ writeRecord_driving_ne _ (stuckCounted c s) d hd)
    rw [stuckVerdict_eq, kept]
    exact reportFault_record _ _ _ _ _ _ (stuckCounted_next c s)
  · rw [stuckVerdict_eq, closingCheck_journal, ← stuckCounted_number c s]; rfl
  · rw [stuckVerdict_eq, closingCheck_ops, ← stuckCounted_next c s]; rfl
  · rw [stuckVerdict_driving, if_pos ho, Option.map_map, Option.map_map]; rfl
  · rw [stuckVerdict_driving, ho]; rfl

end Sys2Proof.Machine
end

section
/-! PROOF. The plan of an operation, and the commands that plan: TAKE_UP_HEAD and FETCH_RESULT (R30–R37). -/

namespace Sys2Proof.Machine

variable {s : State}

/-! ### What a plan leaves -/

/-- A driven channel of the affected set takes its target with its fault flag clear (R34). -/
theorem plannedChannel_driven {x : Channel} (h : x.type ≠ .plain) (t : Bool) :
    plannedChannel x t = { x with
      registered := t
      fault := false
      drive := if x.type = .moved then plannedDrive x t else x.drive } := by
  unfold plannedChannel
  split
  · contradiction
  · rename_i hl; simp [hl]
  · rename_i hm; simp [hm]

/-- The channels are treated one after another, each by its record as it was (R34, R50). -/
theorem planAll_queue (aff : ChanSet) (t : Chan → Bool) (cs : List Chan) (hn : cs.Nodup) (s : State) :
    (planAll aff t cs s).drive.queue = cs.foldl
      (fun q c => if aff.has c && decide (s.channels[c].type = .moved) then plannedQueue c s.channels[c] (t c) q
        else q) s.drive.queue := by
  induction cs generalizing s with
  | nil => rfl
  | cons c cs ih =>
    obtain ⟨hc, hcs⟩ := List.nodup_cons.1 hn
    have step : planAll aff t (c :: cs) s = planAll aff t cs (if aff.has c then planChannel c (t c) s else s) := rfl
    rw [step, ih hcs, List.foldl_cons]
    by_cases ha : aff.has c = true
    · rw [if_pos ha]
      have queue : (planChannel c (t c) s).drive.queue =
          if aff.has c && decide (s.channels[c].type = .moved) then plannedQueue c s.channels[c] (t c) s.drive.queue
          else s.drive.queue := by
        simp only [planChannel, ha, Bool.true_and, decide_eq_true_eq]
      rw [queue]
      refine List.foldl_ext _ _ _ (fun q d hd => ?_)
      have other : (planChannel c (t c) s).channels[d] = s.channels[d] :=
        setChannel_other (fun h : d = c => hc (by rw [← h]; exact hd)) _ s
      rw [other]
    · rw [if_neg ha]
      simp only [ha, Bool.false_and, Bool.false_eq_true, if_false]

/-- The plan up to the closing of the operation that was DRIVING: channels, speaking set and list are done. -/
def planTreated (e : OpEntry) (target : Chan → Bool) (s : State) : State :=
  leaveList (recompose (planAll e.affected target (List.finRange 48) s))

theorem plan_eq_becomeDriving (e : OpEntry) (target : Chan → Bool) (s : State) :
    plan e target s = becomeDriving e (closeDriving .superseded (planTreated e target s)) := rfl

theorem planTreated_ops (e : OpEntry) (target : Chan → Bool) (s : State) :
    (planTreated e target s).ops = { s.ops with list := s.ops.list.tail } := by
  unfold planTreated; simp

theorem planTreated_journal (e : OpEntry) (target : Chan → Bool) (s : State) :
    (planTreated e target s).journal = s.journal := by
  unfold planTreated; simp

/-- A plan changes the pending-move queue alone in the Drive Scheduler (R34). -/
theorem plan_drive (e : OpEntry) (target : Chan → Bool) (s : State) :
    (plan e target s).drive = { s.drive with queue := queueAfterPlan s e.affected target } := by
  have nodup := List.nodup_finRange 48
  have kept := (planAll_spec e.affected target (List.finRange 48) nodup s).2
  have drive : (plan e target s).drive = (planAll e.affected target (List.finRange 48) s).drive := by
    unfold plan; simp
  rw [drive, kept]
  show ({ s.drive with queue := _ } : DriveSched) = _
  rw [planAll_queue _ _ _ nodup]; rfl

/-- The new operation is DRIVING with its counts while a channel is outstanding, and none is otherwise (R36). -/
theorem plan_ops (e : OpEntry) (target : Chan → Bool) (s : State) :
    (plan e target s).ops = {
      list := s.ops.list.tail
      driving := if anyOutstanding (plan e target s) then
          some {
            body := e.body
            origin := e.origin
            record := e.record
            counts := countsAfterPlan e.affected (plan e target s) }
        else none } := by
  have channels : (plan e target s).channels = (closeDriving .superseded (planTreated e target s)).channels := by
    rw [plan_eq_becomeDriving, becomeDriving_channels]
  have counts : countsAfterPlan e.affected (plan e target s)
      = countsAfterPlan e.affected (closeDriving .superseded (planTreated e target s)) := by
    unfold countsAfterPlan plannedCount carriedCount; rw [channels]
  rw [anyOutstanding_congr channels, counts, plan_eq_becomeDriving]
  unfold becomeDriving
  dsimp only
  split
  · show Sequencer.mk (planTreated e target s).ops.list _ = _
    rw [planTreated_ops]; rfl
  · show Sequencer.mk (planTreated e target s).ops.list none = _
    rw [planTreated_ops]

/-- All that a plan changes (R34–R36, R91). -/
theorem plan_eq (e : OpEntry) (target : Chan → Bool) (s : State) :
    plan e target s = { s with
      channels := (plan e target s).channels
      drive := { s.drive with queue := (plan e target s).drive.queue }
      relay := (plan e target s).relay
      ops := { list := s.ops.list.tail, driving := (plan e target s).ops.driving }
      link := s.link.withdrawHold
      journal := (plan e target s).journal } := by
  have frame := plan_frame s e target
  have drive : (plan e target s).drive = { s.drive with queue := (plan e target s).drive.queue } := by rw [plan_drive]
  have ops : (plan e target s).ops = { list := s.ops.list.tail, driving := (plan e target s).ops.driving } := by
    rw [plan_ops]
  rwa [plan_link, drive, ops] at frame

/-! ### What a plan writes in the journal -/

/-- The update of the new operation's record: its counts while it drives, its closing otherwise (R36). -/
def planUpdate (e : OpEntry) (t : State) (tag : Word) (r : Record) : Record :=
  if anyOutstanding t then { r with counts := countsAfterPlan e.affected t } else r.closedAs .closed none tag

theorem plan_journal (e : OpEntry) (target : Chan → Bool) (s : State) :
    (plan e target s).journal =
      (closeDriving .superseded (planTreated e target s)).journal.update e.record
        (planUpdate e (plan e target s) s.journal.timeTag) := by
  have channels : (plan e target s).channels = (closeDriving .superseded (planTreated e target s)).channels := by
    rw [plan_eq_becomeDriving, becomeDriving_channels]
  have tag : (closeDriving .superseded (planTreated e target s)).journal.timeTag = s.journal.timeTag := by
    have closed := congrArg Journal.timeTag (closeDriving_journal .superseded (planTreated e target s))
    have treated := congrArg Journal.timeTag (planTreated_journal e target s)
    exact closed.trans treated
  unfold planUpdate countsAfterPlan plannedCount carriedCount
  rw [anyOutstanding_congr channels, channels, plan_eq_becomeDriving]
  unfold becomeDriving
  dsimp only
  split
  · rfl
  · rw [closeRecord_journal, Journal.close, tag]; rfl

/-- The OPEN record of the operation that was DRIVING closes SUPERSEDED (R36). -/
theorem plan_record_superseded {e : OpEntry} {target : Chan → Bool} {d : Driving} {p : Fin 32} {r : Record}
    (hd : s.ops.driving = some d) (he : e.record ≠ some p) (hr : openRecordAt s d.record p r) :
    (plan e target s).journal.records[p] = some (r.closedAs .superseded none s.journal.timeTag) := by
  have hd' : (planTreated e target s).ops.driving = some d := by rw [planTreated_ops]; exact hd
  have hr' : openRecordAt (planTreated e target s) d.record p r := by
    unfold openRecordAt; rw [planTreated_journal]; exact hr
  rw [plan_journal, Journal.update_other _ _ _ _ he, closeDriving_record_at hd' hr', planTreated_journal]

/-- A record that the operation that was DRIVING does not refer to is not closed with it. -/
theorem closeDriving_planTreated_other {e : OpEntry} {target : Chan → Bool} {p : Fin 32}
    (hd : ∀ d, s.ops.driving = some d → d.record ≠ some p) :
    (closeDriving .superseded (planTreated e target s)).journal.records[p] = s.journal.records[p] := by
  rw [closeDriving_record_other _ (by rw [planTreated_ops]; exact hd), planTreated_journal]

/-- The new operation's own OPEN record takes its counts, or closes CLOSED (R36). -/
theorem plan_record_own {e : OpEntry} {target : Chan → Bool} {p : Fin 32} {r : Record}
    (hd : ∀ d, s.ops.driving = some d → d.record ≠ some p) (hr : openRecordAt s e.record p r) :
    (plan e target s).journal.records[p] = some (planUpdate e (plan e target s) s.journal.timeTag r) := by
  obtain ⟨ref, rec, opened⟩ := hr
  rw [plan_journal]
  exact Journal.update_at _ _ _ _ _ ref ((closeDriving_planTreated_other hd).trans rec) opened

/-- Every other record stays as it was. -/
theorem plan_record_other {e : OpEntry} {target : Chan → Bool} {p : Fin 32} (he : e.record ≠ some p)
    (hd : ∀ d, s.ops.driving = some d → d.record ≠ some p) :
    (plan e target s).journal.records[p] = s.journal.records[p] := by
  rw [plan_journal, Journal.update_other _ _ _ _ he, closeDriving_planTreated_other hd]

/-- A plan writes records and nothing beside them (R201). -/
theorem plan_journal_frame (e : OpEntry) (target : Chan → Bool) (s : State) :
    (plan e target s).journal = { s.journal with records := (plan e target s).journal.records } := by
  have written := plan_journal e target s
  calc (plan e target s).journal
      = _ := written
    _ = _ := Journal.update_frame _ _ _
    _ = _ := by rw [← written, closeDriving_journal, planTreated_journal]

/-- A plan is as it is stated, for an affected set without PLAIN channels (R25, R34–R37). -/
theorem plan_planned {e : OpEntry} (hp : ∀ c : Chan, e.affected.has c = true → s.channels[c].type ≠ .plain)
    (target : Chan → Bool) : Planned e target s (plan e target s) := by
  refine ⟨fun c hc => ?_, fun c hc => ?_, by rw [plan_drive], plan_relay e target s, by rw [plan_ops],
    plan_journal_frame e target s, fun d p r hd he hr => plan_record_superseded hd he hr,
    fun p r hd hr => ?_, fun p he hd => plan_record_other he hd⟩
  · exact (plan_channel e target s c).trans (if_neg (by rw [hc]; decide))
  · exact ((plan_channel e target s c).trans (if_pos hc)).trans (plannedChannel_driven (hp c hc) _)
  · refine (plan_record_own hd hr).trans (congrArg some ?_)
    unfold planUpdate; split <;> rfl

/-! ### TAKE_UP_HEAD -/

/-- A WAITING head that has not asked for its fetch is taken up (R30). -/
theorem exec_takeUpHead {e : OpEntry} {rest : List OpEntry} (hl : s.ops.list = e :: rest) (hw : e.state = .waiting)
    (ha : e.asked = false) : exec .takeUpHead s = .next (takeUp e s) := by
  show execTakeUpHead s = _
  unfold execTakeUpHead
  rw [hl]
  dsimp only
  rw [if_pos (by simp [headWaits, hw, ha])]

/-- A CANCEL, TOGGLE or MIRROR is planned with its targets (R30, R33). -/
theorem takeUp_plan {e : OpEntry} (hr : ∀ l k, e.body ≠ .recall l k) (hc : ∀ l k, e.body ≠ .capture l k) :
    takeUp e s = plan e (targetOf s e.body) s := by
  unfold takeUp
  split
  · rename_i h; exact absurd h (hr _ _)
  · rename_i h; exact absurd h (hc _ _)
  · rfl

/-- Settles O39: the head is planned with its targets. -/
theorem takeUpPlansTheHead : Obligations.TakeUpPlansTheHead := by
  unfold Obligations.TakeUpPlansTheHead
  intro s e rest hl hw ha hr hc hp target
  have targets : target = targetOf s e.body := by
    funext c
    show (match e.body with
      | .toggle _ .on => true
      | .toggle _ .flip => !s.channels[c].registered
      | .mirror _ on => on
      | _ => false) = _
    match e.body with
    | .recall _ _ => rfl
    | .capture _ _ => rfl
    | .cancel _ => rfl
    | .toggle _ .on => rfl
    | .toggle _ .off => rfl
    | .toggle _ .flip => rfl
    | .mirror _ _ => rfl
  refine ⟨plan e target s, ?_, ?_, plan_planned hp target⟩
  · rw [targets, exec_takeUpHead hl hw ha, takeUp_plan hr hc]
  · have frame := plan_eq e target s
    rwa [hl] at frame

/-! ### FETCH_RESULT -/

/-- Without a RECALL that waits for the fetch path nothing is issued (R87; log 17). -/
theorem issueWaitingRecall_none (h : ∀ e ∈ s.ops.list, e.asked = false) : issueWaitingRecall s = s := by
  unfold issueWaitingRecall
  split
  · rfl
  · rename_i e rest hl
    have asked : e.asked = false := h e (by rw [hl]; exact List.mem_cons_self)
    split
    · rw [if_neg (by rw [asked]; decide)]
    · rfl

/-- The station with its fetch path free (R87). -/
def fetchFreed (s : State) : State := { s with store := { s.store with fetch := none } }

/-- The result of the head RECALL's fetch is acted on, and then the fetch path serves the next (R32, R87). -/
theorem exec_fetchResult {e : OpEntry} {rest : List OpEntry} {l : Fin 256} {k : Fin 128} {bytes : List Byte}
    (hl : s.ops.list = e :: rest) (hs : e.state = .fetching)
    (hf : s.store.fetch = some { req := .recall l k, result := some bytes }) :
    exec .fetchResult s = .next (issueWaitingRecall (recallOutcome e l k bytes (fetchFreed s))) := by
  show execFetchResult s = _
  unfold execFetchResult
  rw [hf]
  dsimp only
  unfold deliverFetch
  simp only [hl, hs, if_true]
  rfl

/-- The entries behind a head that fails its check are those behind it before (R208). -/
theorem failRecall_list (l : Fin 256) (k : Fin 128) (s : State) :
    (failRecall l k s).ops = { (s.ops.dropRef s.journal.next) with
      list := (s.ops.dropRef s.journal.next).list.tail } := rfl

/-- The references that are dropped leave the marks of the entries (log 17). -/
theorem dropRef_asked {q : Sequencer} {p : Fin 32} (h : ∀ e ∈ q.list.tail, e.asked = false) :
    ∀ e ∈ (q.dropRef p).list.tail, e.asked = false := by
  intro e he
  rw [Sequencer.dropRef, ← List.map_tail, List.mem_map] at he
  obtain ⟨x, hx, rfl⟩ := he
  exact h x hx

/-- The record of a head that fails its check closes FAILED (R32). -/
theorem failRecall_record_own {e : OpEntry} {rest : List OpEntry} {l : Fin 256} {k : Fin 128} {p : Fin 32} {r : Record}
    (hl : s.ops.list = e :: rest) (hp : p ≠ s.journal.next) (hr : openRecordAt s e.record p r) :
    (failRecall l k s).journal.records[p] = some (r.closedAs .failed (some .checkFail) s.journal.timeTag) := by
  obtain ⟨ref, rec, opened⟩ := hr
  have head : (s.ops.dropRef s.journal.next).list.head?.bind (fun e => e.record) = some p := by
    rw [Sequencer.dropRef, hl]
    show dropRef s.journal.next e.record = _
    rw [ref]; exact if_neg (fun h => hp (Option.some.inj h))
  exact Journal.close_at _ _ _ _ _ _ head ((Journal.push_other _ _ _ hp).trans rec) opened

/-- The CHECK_FAIL record stands where the next record went (R32, R209). -/
theorem failRecall_record_fault (l : Fin 256) (k : Fin 128) (s : State) :
    ((failRecall l k s).journal.records[s.journal.next]).map (fun r => r.subject)
      = some (.fault .checkFail (byteOf l.val) (byteOf k.val) 0 0) := by
  have kept : (failRecall l k s).journal.records[s.journal.next]
      = (reportFault .checkFail (byteOf l.val) (byteOf k.val) 0 0 s).journal.records[s.journal.next] := by
    refine Journal.close_other _ _ _ _ _ ?_
    show (s.ops.dropRef s.journal.next).list.head?.bind _ ≠ _
    rw [Sequencer.dropRef]
    cases s.ops.list with
    | nil => simp
    | cons e rest => exact dropRef_ne _ _
  rw [kept]
  exact reportFault_record _ _ _ _ _ _ rfl

/-- Settles O43: by the classification of the bytes. -/
theorem fetchResultActsOnTheRecall : Obligations.FetchResultActsOnTheRecall := by
  unfold Obligations.FetchResultActsOnTheRecall
  intro s e rest l k bytes hl hs ha hf hp
  have asked : ∀ x ∈ s.ops.list.tail, x.asked = false := by rw [hl]; exact ha
  refine ⟨_, exec_fetchResult hl hs hf, fun target ht => ?_, fun hc => ?_⟩
  · have planned : recallOutcome e l k bytes (fetchFreed s) = plan e target (fetchFreed s) := by
      unfold recallOutcome
      rcases ht with ⟨hb, rfl⟩ | ⟨x, hw, rfl⟩
      · rw [hb]
      · rw [hw]
    rw [planned, issueWaitingRecall_none (by rw [plan_ops]; exact asked)]
    refine ⟨?_, plan_planned (s := fetchFreed s) hp target⟩
    have frame := plan_eq e target (fetchFreed s)
    rwa [show (fetchFreed s).ops.list.tail = rest by rw [show (fetchFreed s).ops = s.ops from rfl, hl]; rfl] at frame
  · have failed : recallOutcome e l k bytes (fetchFreed s) = failRecall l k (fetchFreed s) := by
      unfold recallOutcome; rw [hc]
    rw [failed, issueWaitingRecall_none (by rw [failRecall_list]; exact dropRef_asked asked)]
    exact ⟨rfl, fun p r hp hr => failRecall_record_own (s := fetchFreed s) hl hp hr,
      failRecall_record_fault l k (fetchFreed s)⟩

end Sys2Proof.Machine
end

section
/-! PROOF. The load event and the completion of a start (R219–R222). -/

namespace Sys2Proof.Machine

variable {s : State}

/-! ### The load event -/

/-- FAULT records written while no operation is listed and no write queued change the journal alone (R208, R209). -/
theorem reportFault_bare (ho : s.ops = Sequencer.reset) (hq : s.store.queue = []) (k : FaultCode) (a b c d : Byte) :
    reportFault k a b c d s = { s with journal := journalAfter [.fault k a b c d] s } := by
  have ops : s.ops.dropRef s.journal.next = s.ops := by rw [ho]; rfl
  have store : s.store.dropRef s.journal.next = s.store := by unfold Store.dropRef; rw [hq, List.map_nil, ← hq]
  unfold reportFault writeRecord
  rw [ops, store]; rfl

/-- The subject of a clamped field's record (R210). -/
def clampedSubject (x : Nat × Nat) : Subject :=
  .fault .configClamped (byteOf (x.1 / 256)) (byteOf x.1) (byteOf (x.2 / 256)) (byteOf x.2)

/-- The clamped fields are journaled one after another (R218). -/
theorem reportClamped_bare (ho : s.ops = Sequencer.reset) (hq : s.store.queue = []) (xs : List (Nat × Nat)) :
    reportClamped xs s = { s with journal := journalAfter (xs.map clampedSubject) s } := by
  induction xs generalizing s with
  | nil => rfl
  | cons x xs ih =>
    unfold reportClamped
    rw [reportFault_bare ho hq, ih]
    · rfl
    · exact ho
    · exact hq

/-- Step 4 of the load, by the LEVEL role (R88). -/
theorem loadLocks_eq (s : State) :
    loadLocks s = { s with store := { s.store with
      lockCopy := if s.params.levelRole then lockCopyOf (memReadRange s.memory 0x400 32) else s.store.lockCopy } } := by
  unfold loadLocks; split <;> rfl

/-- The calibration words that the memory holds (R74, R92). -/
def storedC0 (m : Memory) : Fin 1024 := calibrationWord (memRead m 0x420) (memRead m 0x421)
def storedC1 (m : Memory) : Fin 1024 := calibrationWord (memRead m 0x422) (memRead m 0x423)

/-- The record of a calibration that the load finds faulted (R98, R210). -/
def faultedSubjects (shoeRole : Bool) (c0 c1 : Fin 1024) : List Subject :=
  if shoeRole = true ∧ judgeCal c0 c1 = .faulted then
    [.fault .shoeFault (byteOf (c0.val / 256)) (byteOf c0.val) (byteOf (c1.val / 256)) (byteOf c1.val)]
  else []

/-- The station with the stored calibration in its copy, judged (R92, R98). -/
def calibrationRead (s : State) : State :=
  { s with
    store := { s.store with c0 := storedC0 s.memory, c1 := storedC1 s.memory }
    cresc := { s.cresc with cal := judgeCal (storedC0 s.memory) (storedC1 s.memory) } }

theorem loadCalibration_shoe (h : s.params.shoeRole = true) :
    loadCalibration s =
      if judgeCal (storedC0 s.memory) (storedC1 s.memory) = .faulted then
        reportShoeFault (storedC0 s.memory) (storedC1 s.memory) (calibrationRead s)
      else calibrationRead s := if_pos h

/-- Step 5 of the load, by the SHOE role and the judgement of the pair (R92, R98). -/
theorem loadCalibration_bare (ho : s.ops = Sequencer.reset) (hq : s.store.queue = []) :
    loadCalibration s = { s with
      store := { s.store with
        c0 := if s.params.shoeRole then storedC0 s.memory else s.store.c0
        c1 := if s.params.shoeRole then storedC1 s.memory else s.store.c1 }
      cresc := { s.cresc with
        cal := if s.params.shoeRole then judgeCal (storedC0 s.memory) (storedC1 s.memory) else s.cresc.cal }
      journal := journalAfter (faultedSubjects s.params.shoeRole (storedC0 s.memory) (storedC1 s.memory)) s } := by
  unfold faultedSubjects
  by_cases role : s.params.shoeRole = true
  · rw [loadCalibration_shoe role]
    simp only [role, if_true, true_and]
    split
    · unfold reportShoeFault
      rw [reportFault_bare (s := calibrationRead s) ho hq]; rfl
    · rfl
  · unfold loadCalibration
    simp only [role, Bool.false_eq_true, if_false, false_and]; rfl

/-- In STARTING, while the memory is polled, the load event loads (R221). -/
theorem exec_loadEvent (hm : s.view.mode = .starting) (hp : s.start.poll.isSome = true) :
    exec .loadEvent s = .next (load s) := congrArg Host.Outcome.next (if_pos ⟨hm, hp⟩)

/-- The load that settles SAFE (R219). -/
theorem load_safe (h : s.start.safeStrap = true ∨ judgeImage (readImage s) ≠ .passed) :
    load s = { s with
      store := { s.store with mem := .idle }
      start := { s.start with outcome := some (judgeImage (readImage s)), safe := true, poll := none, wait := some 0 }
      time := { s.time with shoeMs := 0 }
      params := safeParams (judgeImage (readImage s)) (readImage s) s.params } := by
  have safe : (s.start.safeStrap || decide (judgeImage (readImage s) ≠ .passed)) = true := by simpa using h
  unfold load
  dsimp only
  rw [safe]; rfl

/-- The station as the load event finds its image good, before it loads (R221). -/
def imagePassed (s : State) : State :=
  { s with
    store := { s.store with mem := .idle }
    start := { s.start with outcome := some .passed, safe := false, poll := none, wait := some 0 }
    time := { s.time with shoeMs := 0 } }

/-- The load outside SAFE (R221). -/
theorem load_passed (hs : s.start.safeStrap = false) (hi : judgeImage (readImage s) = .passed) :
    load s = loadCalibration (loadLocks (loadImage (readImage s) (imagePassed s))) := by
  unfold load
  simp [hs, hi, imagePassed]

/-- The station with the image and the lock table loaded and the clamped fields journaled (R218, R221). -/
def imageLoaded (s : State) : State :=
  { imagePassed s with
    params := paramsOf (readImage s)
    channels := Vector.ofFn (channelOf (readImage s))
    store := { s.store with
      mem := .idle
      lockCopy := if (paramsOf (readImage s)).levelRole then lockCopyOf (memReadRange s.memory 0x400 32)
        else s.store.lockCopy }
    journal := journalAfter ((clampedFields (readImage s)).map clampedSubject) s }

theorem loadLocks_loadImage (ho : s.ops = Sequencer.reset) (hq : s.store.queue = []) :
    loadLocks (loadImage (readImage s) (imagePassed s)) = imageLoaded s := by
  unfold loadImage
  rw [reportClamped_bare (s := imagePassed s) ho hq, loadLocks_eq]; rfl

/-- Records written after records (R203). -/
theorem journalAfter_append (xs ys : List Subject) (s : State) :
    journalAfter (xs ++ ys) s = journalAfter ys { s with journal := journalAfter xs s } := List.foldl_append

/-- Settles O16: the load that settles SAFE, and the load of the image step by step. -/
theorem loadEventSettlesSafeOrLoadsTheImage : Obligations.LoadEventSettlesSafeOrLoadsTheImage := by
  unfold Obligations.LoadEventSettlesSafeOrLoadsTheImage
  constructor
  · intro s hm hp h
    rw [exec_loadEvent hm hp, load_safe h]; rfl
  · intro s hm hp hs hi ho hq img p c0 c1 clamped faulted
    rw [exec_loadEvent hm hp, load_passed hs hi, loadLocks_loadImage ho hq,
      loadCalibration_bare (s := imageLoaded s) ho hq, journalAfter_append]
    rfl

/-! ### The completion -/

/-- In STARTING, while the start-up wait runs, the completion event completes the start (R222). -/
theorem exec_startUpCompletion (hm : s.view.mode = .starting) (hw : s.start.wait.isSome = true) :
    exec .startUpCompletion s = .next (complete s) := congrArg Host.Outcome.next (if_pos ⟨hm, hw⟩)

/-- Off a line that is IDLE a frame handed over in RUN enters the queue by its class (R169). -/
theorem handOver_queued {f : TxFrame} {q : List TxFrame} (hm : s.view.mode = .run) (hl : s.link.line ≠ .idle)
    (hq : coalesce s.link.txq f = some q) : handOver f s = setLink { s.link with txq := q } s := by
  have busy : startsAtOnce s = false := by simp [startsAtOnce, hl]
  exact handOver_taken hm (by rw [takenLink_queued f s busy, hq]; rfl)

/-- A STAGE stands behind the ANNOUNCE (R168, R194). -/
theorem coalesce_announce_stage (p : Fin 4) (st : Fin 60) :
    coalesce [.announce] (.stage p st) = some [.announce, .stage p st] := by
  simp [coalesce, sameClass, TxFrame.cls, Config.txCapacity]

/-- The station with its ANNOUNCE queued (R222). -/
def announceQueued (s : State) : State := setLink { s.link with txq := [.announce] } s

/-- Steps 4 to 6 of the completion: the ANNOUNCE, no STAGE, READY (R194, R222). -/
theorem announceRun_alone (hm : s.view.mode = .run) (hl : s.link.line ≠ .idle) (hq : s.link.txq = [])
    (h : s.params.shoeRole = false ∨ heldPair s = s.cresc.lastSent ∨ s.cresc.interval ≠ none) :
    announceRun s = judgeReady (announceQueued s) := by
  have announce : handOver .announce s = announceQueued s := handOver_queued hm hl (by rw [hq]; rfl)
  unfold announceRun
  rw [if_pos hm, announce]
  dsimp only
  split
  · rename_i role
    have check : originationCheck (announceQueued s) = announceQueued s := by
      refine if_neg (fun hc => ?_)
      obtain ⟨-, pair, interval⟩ := hc
      rcases h with h | h | h
      · rw [show s.params.shoeRole = true from role] at h; cases h
      · exact pair h
      · exact h interval
    rw [check]
  · rfl

/-- Steps 4 to 6 of the completion with a held pair to send: the STAGE stands behind the ANNOUNCE (R111, R222). -/
theorem announceRun_stage (hm : s.view.mode = .run) (hl : s.link.line ≠ .idle) (hq : s.link.txq = [])
    (hr : s.params.shoeRole = true) (hp : heldPair s ≠ s.cresc.lastSent) (hi : s.cresc.interval = none) :
    announceRun s = judgeReady { s with
      link := { s.link with txq := [.announce, .stage s.cresc.program s.cresc.stage] }
      cresc := { s.cresc with lastSent := heldPair s, interval := some 0 } } := by
  have announce : handOver .announce s = announceQueued s := handOver_queued hm hl (by rw [hq]; rfl)
  have check : originationCheck (announceQueued s) = sendStage (announceQueued s) := if_pos ⟨hm, hp, hi⟩
  have stage : sendStage (announceQueued s) = { s with
      link := { s.link with txq := [.announce, .stage s.cresc.program s.cresc.stage] }
      cresc := { s.cresc with lastSent := heldPair s, interval := some 0 } } :=
    handOver_queued hm hl (coalesce_announce_stage _ _)
  unfold announceRun
  rw [if_pos hm, announce]
  dsimp only
  rw [if_pos hr, check, stage]

/-- The registered state of a channel at the first registration (R14). -/
theorem firstRegistration_eq (x : Channel) :
    firstRegistration x = { x with registered := !decide (x.type = .lit) && x.contact } := by
  unfold firstRegistration
  by_cases h : x.type = .lit <;> simp [h]

/-- The first speaking set holds the registered channels (R16, R20). -/
theorem firstRegistered_set (hm : s.view.mode = .starting) (ht : s.view.tutti = false) (hs : s.view.stage = 0)
    (c : Chan) :
    (composedSet (firstRegistered s)).has c = (firstRegistration s.channels[c]).registered := by
  rw [composedSet_has, firstRegistered_speaks hm ht hs]

/-- Settles O17: by the mode that the load settled, and in RUN by whether a STAGE is to be sent. -/
theorem completionEntersRunOrSafe : Obligations.CompletionEntersRunOrSafe := by
  unfold Obligations.CompletionEntersRunOrSafe
  constructor
  · intro s hm hw safe ht hs hq
    have channel (c : Chan) : (firstRegistered s).channels[c] = _ :=
      (firstRegistered_at s c).trans (firstRegistration_eq s.channels[c])
    have set (c : Chan) : (composedSet (firstRegistered s)).has c = (firstRegistered s).channels[c].registered :=
      (firstRegistered_set hm ht hs c).trans (congrArg Channel.registered (firstRegistered_at s c)).symm
    have line (m : Mode) (x : Option Flash) : (modeEntered s m x).link.line ≠ .idle := fun h => nomatch h
    by_cases stage : s.params.shoeRole = true ∧ heldPair s ≠ s.cresc.lastSent ∧ s.cresc.interval = none
    · obtain ⟨role, pair, interval⟩ := stage
      have ends : complete s = _ := (congrArg announceRun (enterMode_run safe)).trans
        (announceRun_stage (s := modeEntered s .run _) rfl (line _ _) hq role pair interval)
      refine ⟨_, (exec_startUpCompletion hm hw).trans (congrArg _ ends), rfl, channel, set, rfl, rfl, fun h => ?_,
        fun _ _ _ => ⟨rfl, rfl⟩⟩
      rcases h with h | h | h
      · rw [role] at h; cases h
      · exact absurd h pair
      · exact absurd interval h
    · have alone : s.params.shoeRole = false ∨ heldPair s = s.cresc.lastSent ∨ s.cresc.interval ≠ none := by
        by_contra h
        simp only [not_or, Bool.not_eq_false, not_not] at h
        exact stage h
      have ends : complete s = _ := (congrArg announceRun (enterMode_run safe)).trans
        (announceRun_alone (s := modeEntered s .run _) rfl (line _ _) hq alone)
      exact ⟨_, (exec_startUpCompletion hm hw).trans (congrArg _ ends), rfl, channel, set, rfl, rfl,
        fun _ => ⟨rfl, rfl⟩, fun role pair interval => absurd ⟨role, pair, interval⟩ stage⟩
  · intro s hm hw safe ht hs hp
    have silent : announceRun (modeEntered s .safe none) = modeEntered s .safe none := if_neg (fun h => nomatch h)
    have ends : complete s = _ := (congrArg announceRun (enterMode_safe safe)).trans silent
    have channel (c : Chan) : (firstRegistered s).channels[c] =
        { s.channels[c] with registered := s.channels[c].contact } :=
      (firstRegistered_at s c).trans (firstRegistration_follows (hp c))
    refine ⟨_, (exec_startUpCompletion hm hw).trans (congrArg _ ends), rfl, fun c => ⟨channel c, ?_⟩⟩
    exact (firstRegistered_set hm ht hs c).trans (congrArg Channel.registered (firstRegistration_follows (hp c)))

end Sys2Proof.Machine
end

section
/-! PROOF. The supply's samples and its loss, the restore, and the start and end of a pulse (R49–R52, R55, R62–R66). -/

namespace Sys2Proof.Machine

variable {s : State}

/-! ### Counts over the channels -/

/-- A condition that no channel meets counts none. -/
theorem countChans_none {f : Chan → Bool} (h : ∀ c, f c = false) : countChans f = 0 := by
  unfold countChans
  rw [List.length_eq_zero_iff, List.filter_eq_nil_iff]
  exact fun c _ => by rw [h c]; decide

/-- A condition that one channel ceases to meet, the others as before, counts one less. -/
theorem countChans_drop {f g : Chan → Bool} {c : Chan} (hf : f c = true) (hg : g c = false)
    (others : ∀ d, d ≠ c → g d = f d) : countChans g + 1 = countChans f := by
  have distinct : ((List.finRange 48).filter f).Nodup := (List.nodup_finRange 48).filter f
  have erased : (List.finRange 48).filter g = ((List.finRange 48).filter f).erase c := by
    rw [distinct.erase_eq_filter, List.filter_filter]
    refine List.filter_congr fun d _ => ?_
    by_cases hd : d = c
    · subst hd; simp [hg]
    · simp [hd, others d hd]
  unfold countChans
  rw [erased]
  exact List.length_erase_add_one (List.mem_filter.2 ⟨List.mem_finRange c, hf⟩)

/-! ### The supply's samples and its loss -/

/-- A loss holds the move of an ENERGIZED channel toward its registered state (R63). -/
theorem heldDrive_energized {x : Channel} {dir : Bool} {a : Attempt} {p : Nat} {o : Option Nat}
    (h : x.drive = .energized dir a p o) :
    heldDrive x = .held x.registered (if x.registered = dir then a else .first) := by
  unfold heldDrive; rw [h]

/-- A loss leaves the drive state of every other channel (R63). -/
theorem heldDrive_of_not_energized {x : Channel} (h : x.drive.isEnergized = false) : heldDrive x = x.drive := by
  unfold heldDrive
  split
  · rename_i hd; rw [hd] at h; cases h
  · rfl

theorem heldDrive_isEnergized (x : Channel) : (heldDrive x).isEnergized = false := by
  unfold heldDrive
  cases x.drive <;> rfl

theorem holdMoves_at (s : State) (c : Chan) :
    (holdMoves s).channels[c] = { s.channels[c] with drive := heldDrive s.channels[c] } :=
  Vector.getElem_ofFn c.isLt

/-- Every coil is released by a loss (R63). -/
theorem energizedCount_holdMoves (s : State) : energizedCount (holdMoves s) = 0 :=
  countChans_none fun c => by rw [holdMoves_at]; exact heldDrive_isEnergized _

/-- The first sample is taken once, from the load event on (R62). -/
theorem exec_supplyFirstSample (hs : sampling s = true) (hu : s.drive.supply = .unsampled) (high : Bool) :
    exec (.supplyFirstSample high) s = .next (if high then setSupply .present none s
      else reportFault .supplyLost 0 0 0 0 (setSupply .lost none s)) := by
  show Host.Outcome.next _ = _
  rw [if_pos (by rw [hs, hu]; rfl)]

/-- What the record of a loss changes beside the channel records (R63, R208, R209). -/
theorem reportFault_setSupply (v : Vector Channel 48) (n : Byte) (s : State) :
    reportFault .supplyLost n 0 0 0 (setSupply .lost none { s with channels := v }) = { s with
      channels := v
      drive := { s.drive with supply := .lost, restore := none }
      journal := s.journal.push (faultRecord .supplyLost n 0 0 0 s)
      ops := s.ops.dropRef s.journal.next
      store := s.store.dropRef s.journal.next } := rfl

/-- A low sample while PRESENT (R63). -/
theorem exec_supplyLoss (h : s.drive.supply = .present) :
    exec .supplyLoss s = .next { s with
      channels := (holdMoves s).channels
      drive := { s.drive with supply := .lost, restore := none }
      journal := s.journal.push (faultRecord .supplyLost (byteOf (energizedCount s)) 0 0 0 s)
      ops := s.ops.dropRef s.journal.next
      store := s.store.dropRef s.journal.next } :=
  congrArg Host.Outcome.next ((if_pos h).trans (reportFault_setSupply (holdMoves s).channels _ s))

/-- Settles O34: by the supply state, and for a loss by the drive state of each channel. -/
theorem supplySamplesAndLoss : Obligations.SupplySamplesAndLoss := by
  unfold Obligations.SupplySamplesAndLoss
  refine ⟨fun s => ⟨fun hs hu => ⟨exec_supplyFirstSample hs hu true, ?_⟩,
    fun hl => congrArg Host.Outcome.next (if_pos hl), fun hw => congrArg Host.Outcome.next (if_pos hw)⟩, fun s hp => ?_⟩
  · exact ⟨_, exec_supplyFirstSample hs hu false, rfl, rfl⟩
  · refine ⟨_, exec_supplyLoss hp, rfl, energizedCount_holdMoves s, fun c => ?_, fun c dir a p o hd => ?_,
      fun c hd => ?_, rfl⟩
    · show (holdMoves s).channels[c] = { s.channels[c] with drive := (holdMoves s).channels[c].drive }
      rw [holdMoves_at]
    · show (holdMoves s).channels[c].drive = _
      rw [holdMoves_at]
      exact heldDrive_energized hd
    · show (holdMoves s).channels[c].drive = _
      rw [holdMoves_at]
      exact heldDrive_of_not_energized hd

/-! ### The restore -/

/-- A HELD channel is restore-verified where its contact has arrived (R66). -/
theorem restoreVerified_held {x : Channel} (h : x.drive.isHeld = true) :
    restoreVerified x = decide (x.contact = x.registered) := by
  unfold restoreVerified; rw [h, Bool.true_and]

theorem restoredChannel_arrived {x : Channel} (h : x.drive.isHeld = true) (hc : x.contact = x.registered) :
    restoredChannel x = { x with drive := .idle, fault := false } := by
  unfold restoredChannel
  rw [if_pos (by rw [restoreVerified_held h]; exact decide_eq_true hc)]

theorem restoredChannel_pending {x : Channel} (h : x.drive.isHeld = true) (hc : x.contact ≠ x.registered) :
    restoredChannel x = { x with drive := .queued } := by
  unfold restoredChannel
  rw [if_neg (by rw [restoreVerified_held h, decide_eq_true_eq]; exact hc), if_pos h]

theorem restoredChannel_of_not_held {x : Channel} (h : x.drive.isHeld = false) : restoredChannel x = x := by
  unfold restoredChannel restoreVerified
  rw [h]; rfl

/-- A HELD channel gives its move to the queue where its contact has not arrived (R66). -/
theorem heldMove_held {c : Chan} {dir : Bool} {a : Attempt} (hd : s.channels[c].drive = .held dir a) :
    heldMove s c = if s.channels[c].contact = s.channels[c].registered then none else some ⟨c, dir, a⟩ := by
  unfold heldMove
  rw [hd]
  dsimp only
  rw [restoreVerified_held (by rw [hd]; rfl)]
  simp only [decide_eq_true_eq]

theorem heldMove_of_not_held {c : Chan} (h : ∀ dir a, s.channels[c].drive ≠ .held dir a) : heldMove s c = none := by
  unfold heldMove
  cases hd : s.channels[c].drive with
  | held dir a => exact absurd hd (h dir a)
  | _ => rfl

theorem heldMove_eq_some_iff (s : State) (c : Chan) (m : Move) :
    heldMove s c = some m ↔ m.chan = c ∧ s.channels[c].drive = .held m.dir m.attempt
      ∧ s.channels[c].contact ≠ s.channels[c].registered := by
  obtain ⟨chan, dir, attempt⟩ := m
  by_cases held : ∃ d a, s.channels[c].drive = .held d a
  · obtain ⟨d, a, hd⟩ := held
    rw [heldMove_held hd, hd]
    generalize s.channels[c] = x
    by_cases hc : x.contact = x.registered <;> simp [hc, eq_comm]
  · rw [heldMove_of_not_held (fun d a hd => held ⟨d, a, hd⟩)]
    exact ⟨fun h => (nomatch h), fun ⟨_, hd, _⟩ => absurd ⟨dir, attempt, hd⟩ held⟩

theorem mem_reentered_iff (s : State) (m : Move) :
    m ∈ reentered s ↔ s.channels[m.chan].drive = .held m.dir m.attempt
      ∧ s.channels[m.chan].contact ≠ s.channels[m.chan].registered := by
  unfold reentered
  simp only [List.mem_filterMap, List.mem_finRange, true_and, heldMove_eq_some_iff]
  exact exists_eq_left'

/-- The held moves re-enter in ascending channel order (R66). -/
theorem reentered_ascending (s : State) : ((reentered s).map (fun m => m.chan)).Pairwise (· < ·) := by
  rw [List.pairwise_map]
  refine (List.pairwise_lt_finRange 48).filterMap _ fun c d hcd m hm n hn => ?_
  obtain ⟨hmc, -⟩ := (heldMove_eq_some_iff s c m).1 hm
  obtain ⟨hnd, -⟩ := (heldMove_eq_some_iff s d n).1 hn
  rw [hmc, hnd]
  exact hcd

/-- Counting verifies raises done alone, once for each (R38, R66). -/
theorem countDone_ops (n : Nat) (s : State) :
    (countDone n s).ops = { s.ops with driving := s.ops.driving.map (fun d =>
      { d with counts := { d.counts with done := satInc^[n] d.counts.done } }) } := by
  induction n generalizing s with
  | zero => simp [countDone]
  | succ n ih =>
    rw [countDone, ih]
    simp only [countDriving, Option.map_map]
    rfl

/-- Counting verifies writes nothing in the journal but records (R38, R206). -/
theorem countDone_journal (n : Nat) (s : State) :
    (countDone n s).journal = { s.journal with records := (countDone n s).journal.records } := by
  induction n generalizing s with
  | zero => rfl
  | succ n ih => rw [countDone, ih, countDriving_journal]

/-- The closing check leaves a FAULT record written just before it (R67, R209). -/
theorem closingCheck_reportFault_record (k : FaultCode) (a b c d : Byte) (s : State) {p : Fin 32}
    (hp : s.journal.next = p) :
    ((closingCheck (reportFault k a b c d s)).journal.records[p]).map (fun r => r.subject)
      = some (.fault k a b c d) := by
  rw [closingCheck_record_other (fun e he => hp ▸ writeRecord_driving_ne _ s e he)]
  exact reportFault_record k a b c d s hp

/-- The station at the restore once its verifies are counted, before the record is written (R66). -/
def restoreCounted (s : State) : State :=
  countDone (restoreVerifies s)
    { s with
      channels := Vector.ofFn (fun c => restoredChannel s.channels[c])
      drive := { queue := reentered s ++ s.drive.queue, supply := .present, restore := none } }

theorem restoreSupply_eq (s : State) :
    restoreSupply s = closingCheck
      (reportFault .supplyRestored (byteOf (reentered s).length) 0 0 0 (restoreCounted s)) := rfl

theorem restoreCounted_next (s : State) : (restoreCounted s).journal.next = s.journal.next := by
  unfold restoreCounted; rw [countDone_journal]

theorem restoreCounted_number (s : State) : (restoreCounted s).journal.number = s.journal.number := by
  unfold restoreCounted; rw [countDone_journal]

theorem restoreSupply_at (s : State) (c : Chan) : (restoreSupply s).channels[c] = restoredChannel s.channels[c] := by
  rw [restoreSupply_eq, closingCheck_channels, reportFault_channels, restoreCounted, countDone_channels]
  exact Vector.getElem_ofFn c.isLt

theorem restoreSupply_drive (s : State) :
    (restoreSupply s).drive = { queue := reentered s ++ s.drive.queue, supply := .present, restore := none } := by
  rw [restoreSupply_eq, closingCheck_drive, reportFault_drive, restoreCounted, countDone_drive]

theorem restoreSupply_store (s : State) : (restoreSupply s).store = s.store.dropRef s.journal.next := by
  rw [restoreSupply_eq, closingCheck_store]
  show (restoreCounted s).store.dropRef (restoreCounted s).journal.next = _
  rw [restoreCounted_next, restoreCounted, countDone_store]

/-- The operations after the restore: the verifies counted, the reference to the position of the new record dropped,
and the closing check made (R66, R67, R208). -/
theorem restoreSupply_ops (s : State) :
    (restoreSupply s).ops =
      { list := (s.ops.dropRef s.journal.next).list
        driving := if anyOutstanding (restoreSupply s) then
          s.ops.driving.map (fun d => { d with
            counts := { d.counts with done := satInc^[restoreVerifies s] d.counts.done }
            record := dropRef s.journal.next d.record })
          else none } := by
  have counted : (reportFault .supplyRestored (byteOf (reentered s).length) 0 0 0 (restoreCounted s)).ops
      = (restoreCounted s).ops.dropRef s.journal.next := by
    rw [← restoreCounted_next s]; rfl
  rw [restoreSupply_eq, anyOutstanding_congr (closingCheck_channels _), closingCheck_ops, counted, restoreCounted,
    countDone_ops]
  simp only [Sequencer.dropRef, Option.map_map]
  rfl

theorem restoreSupply_number (s : State) : (restoreSupply s).journal.number = s.journal.number + 1 := by
  rw [restoreSupply_eq, closingCheck_journal, ← restoreCounted_number s]; rfl

theorem exec_restore (h : s.drive.supply = .waiting) : exec .restore s = .next (restoreSupply s) :=
  congrArg Host.Outcome.next (if_pos h)

/-- Settles O35: field by field, each channel by its drive state and contact. -/
theorem restoreRequeuesHeldMoves : Obligations.RestoreRequeuesHeldMoves := by
  unfold Obligations.RestoreRequeuesHeldMoves
  intro s hw
  refine ⟨restoreSupply s, exec_restore hw, ?_, fun c hd => ?_, fun c hd => ⟨fun hc => ?_, fun hc => ?_⟩,
    ⟨reentered s, ?_, reentered_ascending s, mem_reentered_iff s, ?_⟩, restoreSupply_number s, ?_, fun ho => ?_,
    fun ho => ?_⟩
  · have drive : (restoreSupply s).drive =
        { queue := (restoreSupply s).drive.queue, supply := .present, restore := none } := by
      rw [restoreSupply_drive]
    rw [← drive, ← restoreSupply_store]
    exact restoreSupply_frame s
  · rw [restoreSupply_at, restoredChannel_of_not_held hd]
  · rw [restoreSupply_at, restoredChannel_arrived hd hc]
  · rw [restoreSupply_at, restoredChannel_pending hd hc]
  · rw [restoreSupply_drive]
  · exact closingCheck_reportFault_record _ _ _ _ _ _ (restoreCounted_next s)
  · rw [restoreSupply_ops]
  · rw [restoreSupply_ops, if_pos ho, Option.map_map]; rfl
  · rw [restoreSupply_ops, ho]; rfl

/-! ### Pulses -/

/-- The start conditions (R52). -/
theorem canStartPulse_iff (s : State) :
    canStartPulse s = true ↔
      s.drive.queue ≠ [] ∧ energizedCount s < s.params.p ∧ s.drive.supply = .present := by
  simp only [canStartPulse, Bool.and_eq_true, decide_eq_true_eq, and_assoc]

/-- A pulse starts from the head where the start conditions hold (R52). -/
theorem exec_pulseStart {m : Move} {rest : List Move} (hq : s.drive.queue = m :: rest) :
    exec .pulseStart s = .next (if canStartPulse s then startPulse m s else s) := by
  show execPulseStart s = _
  unfold execPulseStart
  rw [hq]

/-- The end of a pulse releases the coil, and the channel settles (R55). -/
theorem exec_pulseEnd {c : Chan} {dir : Bool} {a : Attempt} {p : Nat} {o : Option Nat}
    (hd : s.channels[c].drive = .energized dir a p o) :
    exec (.pulseEnd c) s = .next (setChannel c { s.channels[c] with drive := .settling dir a 0 } s) := by
  show execPulseEnd c s = _
  unfold execPulseEnd
  rw [hd]

/-- An ENERGIZED channel whose coil is released is one less energized (R51). -/
theorem energizedCount_setChannel_released {c : Chan} {x : Channel} (h : s.channels[c].drive.isEnergized = true)
    (hx : x.drive.isEnergized = false) : energizedCount (setChannel c x s) + 1 = energizedCount s := by
  refine countChans_drop (c := c) h ?_ fun d hd => ?_
  · show (setChannel c x s).channels[c.val].drive.isEnergized = false
    rw [setChannel_at, hx]
  · exact congrArg (fun y : Channel => y.drive.isEnergized) (setChannel_other hd x s)

/-- Settles O36, by the start conditions and the end of a pulse. -/
theorem pulsesStartAndEnd : Obligations.PulsesStartAndEnd := by
  unfold Obligations.PulsesStartAndEnd
  refine ⟨fun s m rest hq => ⟨fun hn hp => ?_, fun blocked => ?_⟩, fun s c dir a p o hd => ?_⟩
  · have start : canStartPulse s = true := (canStartPulse_iff s).2 ⟨by rw [hq]; exact List.cons_ne_nil m rest, hn, hp⟩
    refine ⟨startPulse m s, ?_, ?_, setChannel_at m.chan _ _, othersUnchanged_setChannel m.chan _ _⟩
    · rw [exec_pulseStart hq, if_pos start]
    · unfold startPulse
      rw [hq]; rfl
  · have stay : ¬ canStartPulse s = true := by
      rw [canStartPulse_iff]
      rintro ⟨-, hn, hp⟩
      exact blocked.elim (fun h => absurd hn (Nat.not_lt.2 h)) (fun h => h hp)
    rw [exec_pulseStart hq, if_neg stay]
  · exact ⟨_, exec_pulseEnd hd, rfl, setChannel_at c _ s, othersUnchanged_setChannel c _ s,
      energizedCount_setChannel_released (by rw [hd]; rfl) rfl⟩

end Sys2Proof.Machine
end

section
/-! PROOF. The write queue and the memory: what an entry may hold, what entering a write keeps of the queue, and the
regions that a write stays in (R74, R79, R80, R82). -/

namespace Sys2Proof.Machine

/-! ### Entries and their bytes -/

/-- A write of these bytes to this target stays in the target's region (R79). -/
def Target.Holds (t : Target) (d : List Byte) : Prop :=
  ∀ e : WriteEntry, e.target = t → e.data = d → e.fits = true

/-- Whether an entry fits is seen in its target and its bytes alone. -/
theorem WriteEntry.fits_congr {e x : WriteEntry} (ht : x.target = e.target) (hd : x.data = e.data) :
    x.fits = e.fits := by
  unfold WriteEntry.fits; rw [ht, hd]

theorem Target.holds_slot (l : Fin 256) (k : Fin 128) {d : List Byte} (h : d.length = 8) :
    (Target.slot l k).Holds d := by
  intro e ht hd; unfold WriteEntry.fits; rw [ht, hd]; simpa using h

theorem Target.holds_lockByte (n : Fin 32) (b : Byte) : (Target.lockByte n).Holds [b] := by
  intro e ht hd; unfold WriteEntry.fits; rw [ht, hd]; rfl

theorem Target.holds_calibration (c0 c1 : Fin 1024) : Target.calibration.Holds (calibrationBytes c0 c1) := by
  intro e ht hd; unfold WriteEntry.fits; rw [ht, hd]; rfl

theorem Target.holds_image (page : Fin 4) {first : Fin 256} {d : List Byte} {n : Nat} (hn : d.length = n)
    (h : first.val + n ≤ 256) : (Target.image page first n).Holds d := by
  intro e ht hd; unfold WriteEntry.fits; rw [ht, hd]; simp [hn, h]

/-- A record formed of a pattern has 8 bytes (R75). -/
@[simp] theorem writtenRecord_length (x : ChanSet) : (writtenRecord x).length = 8 := rfl

/-- The page ranges of an image write of at most 64 bytes each lie in one page (R79, R233). -/
theorem imageTargets_hold {offset : Nat} {data : List Byte} (h : data.length ≤ 64) :
    ∀ td ∈ imageTargets offset data, td.1.Holds td.2 := by
  have first : (Fin.ofNat 256 (offset % 256)).val = offset % 256 := Nat.mod_mod _ _
  have below := Nat.mod_lt offset (show 0 < 256 by decide)
  intro td htd
  unfold imageTargets at htd
  dsimp only at htd
  split at htd
  · obtain rfl := List.mem_singleton.1 htd
    exact Target.holds_image _ rfl (by omega)
  · rcases List.mem_cons.1 htd with rfl | htd
    · exact Target.holds_image _ (by simp; omega) (by omega)
    · obtain rfl := List.mem_singleton.1 htd
      exact Target.holds_image _ (by simp) (by simp; omega)

/-- Every address that a fitting entry writes is one that the part writes (R74, R79). -/
theorem WriteEntry.fits_storeAddress {e : WriteEntry} (h : e.fits = true) {a : Nat} (lo : targetAddress e.target ≤ a)
    (hi : a < targetAddress e.target + e.data.length) : storeAddress a = true := by
  unfold WriteEntry.fits at h
  unfold storeAddress
  rw [Bool.or_eq_true, Bool.and_eq_true, decide_eq_true_eq, decide_eq_true_eq, decide_eq_true_eq]
  split at h <;> rename_i ht <;> rw [ht] at lo hi <;> simp only [Bool.and_eq_true, decide_eq_true_eq] at h
  case h_1 l k => simp only [targetAddress, slotAddress] at lo hi; omega
  case h_2 n => simp only [targetAddress] at lo hi; omega
  case h_3 => simp only [targetAddress] at lo hi; omega
  case h_4 page first len => simp only [targetAddress] at lo hi; omega

/-- Bytes written into the range of a fitting entry keep the memory in its regions (R74, R79). -/
theorem memWriteRange_regions {m : Memory} {e : WriteEntry} {bs : List Byte} (hm : ∀ c ∈ m, storeAddress c.1 = true)
    (he : e.fits = true) (hl : bs.length = e.data.length) :
    ∀ c ∈ memWriteRange m (targetAddress e.target) bs, storeAddress c.1 = true := by
  intro c hc
  rcases memWriteRange_mem bs m _ c hc with old | ⟨lo, hi⟩
  · exact hm c old
  · exact e.fits_storeAddress he lo (hl ▸ hi)

/-! ### What entering a write keeps of the queue -/

/-- The targets of the entries that wait (R80). -/
def waitingTargets (q : List WriteEntry) : List Target := (q.filter (fun e => !e.inFlight)).map (fun e => e.target)

/-- What every change of the write queue but an issue and the end of a write keeps: entries fit, none behind the head is
put in flight, the head stays in flight or out of it, and no two waiting entries get one target (R79, R80, R82). -/
structure QueueKept (q r : List WriteEntry) : Prop where
  fits : (∀ e ∈ q, e.fits = true) → ∀ e ∈ r, e.fits = true
  behind : (∀ e ∈ q.tail, e.inFlight = false) → ∀ e ∈ r.tail, e.inFlight = false
  head : (∃ e, r.head? = some e ∧ e.inFlight = true) ↔ ∃ e, q.head? = some e ∧ e.inFlight = true
  distinct : (waitingTargets q).Nodup → (waitingTargets r).Nodup

theorem QueueKept.refl (q : List WriteEntry) : QueueKept q q := ⟨id, id, Iff.rfl, id⟩

/-- Entries are changed in place, in neither target nor flight. -/
theorem QueueKept.map {f : WriteEntry → WriteEntry} (target : ∀ e, (f e).target = e.target)
    (inFlight : ∀ e, (f e).inFlight = e.inFlight) (fits : ∀ e, e.fits = true → (f e).fits = true)
    (q : List WriteEntry) : QueueKept q (q.map f) where
  fits h e he := by
    obtain ⟨x, hx, rfl⟩ := List.mem_map.1 he
    exact fits x (h x hx)
  behind h e he := by
    rw [← List.map_tail] at he
    obtain ⟨x, hx, rfl⟩ := List.mem_map.1 he
    rw [inFlight]; exact h x hx
  head := by cases q <;> simp [inFlight]
  distinct h := by
    have same : waitingTargets (q.map f) = waitingTargets q := by
      unfold waitingTargets
      rw [List.filter_map, List.map_map]
      simp only [Function.comp_def, target, inFlight]
    rwa [same]

/-- An entry whose target none waits for comes last. -/
theorem QueueKept.append {q : List WriteEntry} {e : WriteEntry} (waits : e.inFlight = false) (fits : e.fits = true)
    (fresh : ∀ x ∈ q, waitsFor e.target x = false) : QueueKept q (q ++ [e]) where
  fits h x hx := by
    rcases List.mem_append.1 hx with hx | hx
    · exact h x hx
    · obtain rfl := List.mem_singleton.1 hx; exact fits
  behind h x hx := by
    cases q with
    | nil => cases hx
    | cons y ys =>
      rcases List.mem_append.1 hx with hx | hx
      · exact h x hx
      · obtain rfl := List.mem_singleton.1 hx; exact waits
  head := by cases q <;> simp [waits]
  distinct h := by
    have appended : waitingTargets (q ++ [e]) = waitingTargets q ++ [e.target] := by
      unfold waitingTargets; simp [waits]
    rw [appended, List.nodup_append]
    refine ⟨h, List.nodup_singleton _, fun t ht u hu same => ?_⟩
    obtain ⟨x, hx, rfl⟩ := List.mem_map.1 ht
    obtain rfl := List.mem_singleton.1 hu
    obtain ⟨hx, hw⟩ := List.mem_filter.1 hx
    have := fresh x hx
    simp_all [waitsFor]

/-- A reference dropped from the captures leaves the queue as it is otherwise (R208). -/
theorem Store.dropRef_queueKept (st : Store) (p : Fin 32) : QueueKept st.queue (st.dropRef p).queue :=
  .map (f := fun e => { e with capture := Machine.dropRef p e.capture }) (fun _ => rfl) (fun _ => rfl) (fun _ h => h)
    st.queue

/-- A write that fits is entered (R80). -/
theorem enterQueue_queueKept {q r : List WriteEntry} {t : Target} {d : List Byte} {c : Option (Fin 32)}
    (hd : t.Holds d) (h : enterQueue q t d c = some r) : QueueKept q r := by
  unfold enterQueue at h
  split at h
  · cases h
    refine .map (fun e => ?_) (fun e => ?_) (fun e he => ?_) q
    · split <;> rfl
    · split <;> rfl
    · split
      · rename_i hw
        exact hd _ (by simp [waitsFor] at hw; exact hw.1) rfl
      · exact he
  · rename_i hn
    split at h
    · cases h
      refine .append rfl (hd _ rfl rfl) (fun x hx => ?_)
      exact Bool.eq_false_iff.2 (fun hw => hn (List.any_eq_true.2 ⟨x, hx, hw⟩))
    · cases h

end Sys2Proof.Machine
end

section
/-! PROOF. What every command but the end of a write and a cold reset keeps of the store: the memory, the regions of the
waiting writes and the law of the one write in flight (R72, R74, R79, R82, R93). -/

namespace Sys2Proof.Machine

variable {s : State}

/-- The memory is as before, the waiting writes stay in their regions, and one write at most is in flight. -/
structure StoreKept (s t : State) : Prop where
  memory : t.memory = s.memory
  fits : (∀ e ∈ s.store.queue, e.fits = true) → ∀ e ∈ t.store.queue, e.fits = true
  oneWrite : OneWriteInFlight s → OneWriteInFlight t

theorem StoreKept.refl (s : State) : StoreKept s s := ⟨rfl, id, id⟩

theorem StoreKept.trans {s t u : State} (h : StoreKept s t) (k : StoreKept t u) : StoreKept s u :=
  ⟨k.memory.trans h.memory, k.fits ∘ h.fits, k.oneWrite ∘ h.oneWrite⟩

/-- What is kept leaves the memory in its regions (R74). -/
theorem StoreKept.regions {t : State} (k : StoreKept s t) (h : StoreInRegions s) : StoreInRegions t := by
  obtain ⟨wf, regions, fits⟩ := h
  exact ⟨k.memory ▸ wf, k.memory ▸ regions, k.fits fits⟩

/-- A command whose conditions do not hold keeps everything. -/
theorem StoreKept.ite {p : Prop} [Decidable p] {t : State} (h : p → StoreKept s t) :
    StoreKept s (if p then t else s) := by
  split
  · exact h ‹p›
  · exact .refl s

/-- What a change has to meet in the queue, in the flight of its head and in STARTING (R82, R93). -/
theorem StoreKept.of_queueKept {t : State} (memory : t.memory = s.memory)
    (queue : QueueKept s.store.queue t.store.queue)
    (timer : t.store.writeTimer.isSome = s.store.writeTimer.isSome) (mem : t.store.mem = s.store.mem)
    (empty : OneWriteInFlight s → t.view.mode = .starting → t.store.queue = [] ∧ t.ops.list = []) : StoreKept s t := by
  refine ⟨memory, queue.fits, fun one => ?_⟩
  obtain ⟨behind, head, busy, distinct, -⟩ := id one
  refine ⟨queue.behind behind, ?_, fun ht => mem.trans (busy (timer.symm.trans ht)), queue.distinct distinct, empty one⟩
  exact (queue.head.trans head).trans (by rw [timer])

/-- A change outside memory, write queue, operation list and mode. -/
theorem StoreKept.outside {t : State}
    (h : (t.memory, t.store.queue, t.store.writeTimer.isSome, t.store.mem, t.ops.list, t.view.mode)
      = (s.memory, s.store.queue, s.store.writeTimer.isSome, s.store.mem, s.ops.list, s.view.mode)) :
    StoreKept s t := by
  simp only [Prod.mk.injEq] at h
  obtain ⟨memory, queue, timer, mem, list, mode⟩ := h
  refine .of_queueKept memory (queue ▸ .refl _) timer mem (fun ⟨_, _, _, _, starting⟩ hm => ?_)
  rw [queue, list]; exact starting (mode.symm.trans hm)

/-- A new operation list: in STARTING an empty one stays empty (R93). -/
theorem StoreKept.withList {t : State} (list : s.view.mode = .starting → s.ops.list = [] → t.ops.list = [])
    (h : (t.memory, t.store, t.view.mode) = (s.memory, s.store, s.view.mode)) : StoreKept s t := by
  simp only [Prod.mk.injEq] at h
  obtain ⟨memory, store, mode⟩ := h
  refine .of_queueKept memory (store ▸ .refl _) (by rw [store]) (by rw [store]) (fun ⟨_, _, _, _, starting⟩ hm => ?_)
  obtain ⟨hq, hl⟩ := starting (mode.symm.trans hm)
  exact ⟨by rw [store, hq], list (mode.symm.trans hm) hl⟩

/-- A new mode, which is not STARTING again. -/
theorem StoreKept.withMode {t : State} (mode : t.view.mode = .starting → s.view.mode = .starting)
    (h : (t.memory, t.store, t.ops) = (s.memory, s.store, s.ops)) : StoreKept s t := by
  simp only [Prod.mk.injEq] at h
  obtain ⟨memory, store, ops⟩ := h
  refine .of_queueKept memory (store ▸ .refl _) (by rw [store]) (by rw [store]) (fun ⟨_, _, _, _, starting⟩ hm => ?_)
  rw [store, ops]; exact starting (mode hm)

/-- A new write queue, once the station has left STARTING (R93). -/
theorem StoreKept.withQueue {t : State} (started : OneWriteInFlight s → s.view.mode ≠ .starting)
    (queue : QueueKept s.store.queue t.store.queue)
    (h : (t.memory, t.store.writeTimer, t.store.mem, t.view.mode)
      = (s.memory, s.store.writeTimer, s.store.mem, s.view.mode)) : StoreKept s t := by
  simp only [Prod.mk.injEq] at h
  obtain ⟨memory, timer, mem, mode⟩ := h
  exact .of_queueKept memory queue (by rw [timer]) mem (fun one hm => absurd (mode.symm.trans hm) (started one))

/-! ### Shared operations -/

/-- In STARTING no operation is listed, so a station with one has left it (R93). -/
theorem OneWriteInFlight.started_of_list (h : OneWriteInFlight s) (hl : s.ops.list ≠ []) : s.view.mode ≠ .starting :=
  fun hm => hl (h.2.2.2.2 hm).2

/-- In STARTING no write waits, so a station with one has left it (R93). -/
theorem OneWriteInFlight.started_of_queue (h : OneWriteInFlight s) (hq : s.store.queue ≠ []) :
    s.view.mode ≠ .starting :=
  fun hm => hq (h.2.2.2.2 hm).1

/-- A journal record drops references alone (R208). -/
theorem writeRecord_storeKept (r : Record) : StoreKept s (writeRecord r s) := by
  refine .of_queueKept rfl (Store.dropRef_queueKept s.store s.journal.next) rfl rfl (fun one hm => ?_)
  obtain ⟨queue, list⟩ := one.2.2.2.2 hm
  rw [writeRecord_store, writeRecord_ops, Store.dropRef, Sequencer.dropRef, queue, list]
  exact ⟨rfl, rfl⟩

theorem reportFault_storeKept (k : FaultCode) (a b c d : Byte) : StoreKept s (reportFault k a b c d s) :=
  writeRecord_storeKept _

theorem handOver_storeKept (f : TxFrame) : StoreKept s (handOver f s) := by
  unfold handOver
  split
  · split
    · exact .outside (by rfl)
    · exact reportFault_storeKept _ _ _ _ _
  · exact .refl s

theorem countDriving_storeKept (f : Counts → Counts) : StoreKept s (countDriving f s) :=
  .outside (by rfl)

theorem countDone_storeKept (n : Nat) : StoreKept s (countDone n s) := by
  induction n generalizing s with
  | zero => exact .refl s
  | succ n ih => exact (countDriving_storeKept _).trans ih

theorem closeDriving_storeKept (st : RecState) : StoreKept s (closeDriving st s) :=
  .outside (by rfl)

theorem closeRecord_storeKept (ref : Option (Fin 32)) (st : RecState) (o : Option FaultCode) :
    StoreKept s (closeRecord ref st o s) :=
  .outside (by rfl)

theorem closingCheck_storeKept : StoreKept s (closingCheck s) := by
  unfold closingCheck
  split
  · exact .refl s
  · exact closeDriving_storeKept _

/-- A write that fits its target is entered, once the station has left STARTING (R80, R93). -/
theorem enterWrite_storeKept {t : Target} {d : List Byte} {k : Option (Fin 32)} {u : State}
    (hs : OneWriteInFlight s → s.view.mode ≠ .starting) (hd : t.Holds d) (h : enterWrite t d k s = some u) :
    StoreKept s u := by
  unfold enterWrite at h
  split at h
  · cases h
  · rename_i q hq
    cases h
    exact .withQueue hs (enterQueue_queueKept hd hq) rfl

theorem enterAll_storeKept {ts : List (Target × List Byte)} {u : State} (hs : s.view.mode ≠ .starting)
    (hd : ∀ td ∈ ts, td.1.Holds td.2) (h : enterAll ts s = some u) : StoreKept s u := by
  induction ts generalizing s with
  | nil => cases h; exact .refl _
  | cons td ts ih =>
    unfold enterAll at h
    split at h
    · cases h
    · rename_i v hv
      have started : v.view.mode ≠ .starting := by rw [enterWrite_frame hv]; exact hs
      exact (enterWrite_storeKept (fun _ => hs) (hd td List.mem_cons_self) hv).trans
        (ih started (fun x hx => hd x (List.mem_cons_of_mem _ hx)) h)

theorem enterImage_storeKept {offset : Nat} {data : List Byte} {u : State} (hs : s.view.mode ≠ .starting)
    (hd : data.length ≤ 64) (h : enterImage offset data s = some u) : StoreKept s u := by
  unfold enterImage at h
  dsimp only at h
  split at h
  · exact enterAll_storeKept hs (imageTargets_hold hd) h
  · cases h

theorem writeLockByte_storeKept (n : Fin 32) (hs : s.view.mode ≠ .starting) : StoreKept s (writeLockByte n s) := by
  unfold writeLockByte
  split
  · rename_i u h; exact enterWrite_storeKept (fun _ => hs) (Target.holds_lockByte n _) h
  · exact .outside (by rfl)

theorem writeCalibration_storeKept (hs : s.view.mode ≠ .starting) : StoreKept s (writeCalibration s) := by
  unfold writeCalibration
  split
  · rename_i u h; exact enterWrite_storeKept (fun _ => hs) (Target.holds_calibration _ _) h
  · exact .outside (by rfl)

theorem serveMark_storeKept (hs : s.view.mode ≠ .starting) : StoreKept s (serveMark s) := by
  unfold serveMark
  split
  · exact StoreKept.trans (.outside (by rfl)) (writeCalibration_storeKept (by exact hs))
  · split
    · exact .refl s
    · exact StoreKept.trans (.outside (by rfl)) (writeLockByte_storeKept _ (by exact hs))

theorem setLock_storeKept (level : Fin 256) (lock : Bool) (hs : s.view.mode ≠ .starting) :
    StoreKept s (setLock level lock s) :=
  StoreKept.trans (.outside (by rfl)) (writeLockByte_storeKept _ (by exact hs))

theorem serveFetch_storeKept : StoreKept s (serveFetch s) := by
  unfold serveFetch
  split
  · split
    · exact .outside (by rfl)
    · exact .refl s
  · exact .refl s

theorem requestFetch_storeKept (req : FetchReq) : StoreKept s (requestFetch req s) :=
  StoreKept.trans (.outside (by rfl)) serveFetch_storeKept

/-- The head that is issued was the one that waited first, and the memory is then BUSY (R82). -/
theorem issueWrite_storeKept : StoreKept s (issueWrite s) := by
  unfold issueWrite
  split
  · exact .refl s
  · rename_i e rest hq
    refine .ite (fun hc => ⟨rfl, ?_, fun one => ?_⟩)
    · intro fits x hx
      rcases List.mem_cons.1 hx with rfl | hx
      · exact (WriteEntry.fits_congr rfl rfl).trans (fits e (by rw [hq]; exact List.mem_cons_self))
      · exact fits x (by rw [hq]; exact List.mem_cons_of_mem _ hx)
    · have waits : e.inFlight = false := by
        unfold canIssueWrite at hc
        simp only [hq, Bool.and_eq_true, Bool.not_eq_true'] at hc
        exact hc.1.1
      have started := one.started_of_queue (by rw [hq]; exact List.cons_ne_nil e rest)
      obtain ⟨behind, -, -, distinct, -⟩ := one
      rw [hq] at behind distinct
      refine ⟨behind, ⟨fun _ => rfl, fun _ => ⟨_, rfl, rfl⟩⟩, fun _ => rfl, ?_, fun hm => absurd hm started⟩
      rw [List.filter_cons_of_pos (by simp [waits]), List.map_cons] at distinct
      exact distinct.of_cons

theorem closeAll_storeKept (st : RecState) (es : List OpEntry) : StoreKept s (closeAll st es s) := by
  rw [closeAll_frame]; exact .outside (by rfl)

/-- An operation is listed only after STARTING (R26, R93). -/
theorem appendOperation_storeKept (body : OpBody) (origin : Station) (aff : ChanSet) (hs : s.view.mode ≠ .starting) :
    StoreKept s (appendOperation body origin aff s) := by
  have opened : StoreKept s (openRecord body origin s).1 ∧ (openRecord body origin s).1.view = s.view := by
    unfold openRecord
    split
    · exact ⟨.refl s, rfl⟩
    · exact ⟨writeRecord_storeKept _, rfl⟩
  unfold appendOperation
  dsimp only
  refine (opened.1.trans (.withList (fun hm => ?_) (by rfl))).trans (closeAll_storeKept _ _)
  rw [opened.2] at hm; exact absurd hm hs

theorem considerFrame_storeKept (mark : Mark) (header : Byte) (m : Msg) (hs : s.view.mode ≠ .starting) :
    StoreKept s (considerFrame mark header m s) := by
  unfold considerFrame
  split
  · exact .refl s
  · split
    · exact .refl s
    · split
      · exact appendOperation_storeKept _ _ _ hs
      · exact reportFault_storeKept _ _ _ _ _

theorem leaveList_storeKept : StoreKept s (leaveList s) :=
  .withList (fun _ h => by rw [leaveList_ops, h]; rfl) rfl

/-- The head entry of a list is changed (R31). -/
theorem setHead_storeKept (e : OpEntry) (hl : s.ops.list ≠ []) : StoreKept s (setHead e s) :=
  .withList (fun _ h => absurd h hl) rfl

theorem askFetch_storeKept (e : OpEntry) (l : Fin 256) (k : Fin 128) (hl : s.ops.list ≠ []) :
    StoreKept s (askFetch e l k s) := by
  unfold askFetch
  split
  · exact (setHead_storeKept _ hl).trans (requestFetch_storeKept _)
  · exact setHead_storeKept _ hl

theorem issueWaitingRecall_storeKept : StoreKept s (issueWaitingRecall s) := by
  unfold issueWaitingRecall
  split
  · exact .refl s
  · rename_i e rest hl
    split
    · exact .ite (fun _ => askFetch_storeKept _ _ _ (by rw [hl]; exact List.cons_ne_nil e rest))
    · exact .refl s

/-- A plan takes the head off the list (R34–R36). -/
theorem plan_storeKept (e : OpEntry) (target : Chan → Bool) : StoreKept s (plan e target s) := by
  rw [plan_frame]
  exact .withList (fun _ h => by show (plan e target s).ops.list = []; rw [plan_ops, h]; rfl) rfl

theorem takeCapture_storeKept (e : OpEntry) (l : Fin 256) (k : Fin 128) (hl : s.ops.list ≠ []) :
    StoreKept s (takeCapture e l k s) := by
  unfold takeCapture
  split
  · rename_i u h
    exact (enterWrite_storeKept (fun one => one.started_of_list hl) (Target.holds_slot l k (writtenRecord_length _))
      h).trans leaveList_storeKept
  · exact setHead_storeKept _ hl

theorem takeUp_storeKept (e : OpEntry) (hl : s.ops.list ≠ []) : StoreKept s (takeUp e s) := by
  unfold takeUp
  split
  · exact askFetch_storeKept _ _ _ hl
  · exact takeCapture_storeKept _ _ _ hl
  · exact plan_storeKept _ _

theorem deliverFetch_storeKept (req : FetchReq) (bytes : List Byte) : StoreKept s (deliverFetch req bytes s) := by
  unfold deliverFetch recallOutcome
  split
  · split
    · exact .refl s
    · refine .ite (fun _ => ?_)
      split
      · exact plan_storeKept _ _
      · exact plan_storeKept _ _
      · exact ((reportFault_storeKept _ _ _ _ _).trans (closeRecord_storeKept _ _ _)).trans leaveList_storeKept
  · exact .outside (by rfl)
  · exact .outside (by rfl)

/-! ### Channels, drive, crescendo and pistons -/

theorem handMove_storeKept (c : Chan) (on : Bool) : StoreKept s (handMove c on s) := by
  rw [handMove_eq]
  refine StoreKept.trans ?_ (handOver_storeKept _)
  rw [movedByHand_frame]
  exact .outside (by rfl)

theorem debouncedChange_storeKept (c : Chan) (on : Bool) : StoreKept s (debouncedChange c on s) := by
  unfold debouncedChange workingChange movedChange litPress
  dsimp only
  split
  · exact .outside (by rfl)
  · exact .outside (by rfl)
  · split
    · exact .outside (by rfl)
    · split
      · exact handMove_storeKept c on
      · exact handMove_storeKept c on
      · exact .outside (by rfl)
    · split
      · exact StoreKept.trans (.outside (by rfl)) (handOver_storeKept _)
      · exact .outside (by rfl)

theorem verifyMove_storeKept (c : Chan) (dir : Bool) (a : Attempt) : StoreKept s (verifyMove c dir a s) := by
  unfold verifyMove verifyMatch verifyRetry verifyFresh stuckVerdict
  dsimp only
  split
  · exact (StoreKept.trans (.outside (by rfl)) (countDriving_storeKept _)).trans closingCheck_storeKept
  · split
    · split
      · exact StoreKept.trans (.outside (by rfl)) (countDriving_storeKept _)
      · exact ((StoreKept.trans (.outside (by rfl)) (countDriving_storeKept _)).trans
          (reportFault_storeKept _ _ _ _ _)).trans
          closingCheck_storeKept
    · exact .outside (by rfl)

theorem restoreSupply_storeKept : StoreKept s (restoreSupply s) := by
  unfold restoreSupply
  dsimp only
  exact ((StoreKept.trans (.outside (by rfl)) (countDone_storeKept _)).trans (reportFault_storeKept _ _ _ _ _)).trans
    closingCheck_storeKept

theorem sendStage_storeKept : StoreKept s (sendStage s) := StoreKept.trans (.outside (by rfl)) (handOver_storeKept _)

theorem originationCheck_storeKept : StoreKept s (originationCheck s) := .ite (fun _ => sendStage_storeKept)

theorem takeSample_storeKept (r : Fin 1024) : StoreKept s (takeSample r s) := by
  unfold takeSample stageUpdate
  dsimp only
  split
  · exact .outside (by rfl)
  · split
    · exact StoreKept.trans (.outside (by rfl)) originationCheck_storeKept
    · exact .outside (by rfl)

theorem endInterval_storeKept : StoreKept s (endInterval s) := by
  unfold endInterval
  split
  · exact sendStage_storeKept
  · exact .outside (by rfl)

theorem calibrationPress_storeKept (hs : s.view.mode ≠ .starting) : StoreKept s (calibrationPress s) := by
  unfold calibrationPress acceptCalibration
  split
  · exact .refl s
  · exact .outside (by rfl)
  · split
    · exact StoreKept.trans (.outside (by rfl)) (writeCalibration_storeKept (by exact hs))
    · exact StoreKept.trans (.outside (by rfl)) (reportFault_storeKept _ _ _ _ _)

theorem actStep_storeKept (function : Byte) (st : SeqStep) : StoreKept s (actStep function st s) := by
  unfold actStep sequenceEnd
  dsimp only
  split
  · exact handOver_storeKept _
  · exact .refl s
  · split
    · exact .outside (by rfl)
    · exact StoreKept.trans (.outside (by rfl)) (reportFault_storeKept _ _ _ _ _)

theorem pressTutti_storeKept : StoreKept s (pressTutti s) := by
  unfold pressTutti
  split
  · exact handOver_storeKept _
  · split
    · exact .outside (by rfl)
    · exact handOver_storeKept _

theorem pressAct_storeKept (fn : PistonFn) (hs : s.view.mode ≠ .starting) : StoreKept s (pressAct fn s) := by
  match fn with
  | .nothing => exact .refl s
  | .recall slot =>
    show StoreKept s (pressRecall slot s)
    unfold pressRecall
    split <;> exact handOver_storeKept _
  | .next => exact actStep_storeKept _ _
  | .prev => exact actStep_storeKept _ _
  | .set => exact handOver_storeKept _
  | .cancelAll => exact handOver_storeKept _
  | .cancelDiv d => exact handOver_storeKept _
  | .toggle stop => exact handOver_storeKept _
  | .tutti => exact pressTutti_storeKept
  | .levelUp => exact .ite (fun _ => handOver_storeKept _)
  | .levelDown => exact .ite (fun _ => handOver_storeKept _)
  | .lock => exact .ite (fun _ => setLock_storeKept _ _ hs)
  | .program k => exact .ite (fun _ => .ite (fun _ => StoreKept.trans (.outside (by rfl)) originationCheck_storeKept))
  | .calibrate => exact .ite (fun _ => calibrationPress_storeKept hs)

theorem takePress_storeKept (i : Fin 32) : StoreKept s (takePress i s) := by
  unfold takePress
  split
  · rename_i hm; exact pressAct_storeKept _ (by rw [hm]; decide)
  · exact reportFault_storeKept _ _ _ _ _
  · exact .refl s

/-! ### The link and deliveries -/

theorem countAttempt_storeKept (cause : AttemptCause) : StoreKept s (countAttempt cause s) := by
  unfold countAttempt
  split
  · exact .refl s
  · split
    · exact .outside (by rfl)
    · exact StoreKept.trans (.outside (by rfl)) (reportFault_storeKept _ _ _ _ _)

theorem takeStall_storeKept (header : Option Byte) : StoreKept s (takeStall header s) := by
  unfold takeStall reportStall
  dsimp only
  refine StoreKept.trans ?_ (reportFault_storeKept _ _ _ _ _)
  split
  · exact StoreKept.trans (.outside (by rfl)) (countAttempt_storeKept _)
  · exact .outside (by rfl)

/-- The Sequencer takes frames in RUN and LISTEN alone (R24). -/
theorem toSequencer_storeKept (mark : Mark) (header : Byte) (m : Msg) : StoreKept s (toSequencer mark header m s) := by
  refine .ite (fun hw => considerFrame_storeKept _ _ _ (fun hm => ?_))
  simp [working, hm] at hw

theorem recomposeIf_storeKept (changed : Bool) : StoreKept s (recomposeIf changed s) :=
  .ite (fun _ => .outside (by rfl))

theorem effect_storeKept (mark : Mark) (header : Byte) (m : Msg) : StoreKept s (effect mark header m s) := by
  match m with
  | .cancel scope => exact toSequencer_storeKept _ _ _
  | .recall l k => exact .ite (fun _ => StoreKept.trans (.outside (by rfl)) (toSequencer_storeKept _ _ _))
  | .capture l k => exact .ite (fun _ => StoreKept.trans (.outside (by rfl)) (toSequencer_storeKept _ _ _))
  | .handset on stop => exact toSequencer_storeKept _ _ _
  | .toggle a stop => exact toSequencer_storeKept _ _ _
  | .tutti on => exact StoreKept.trans (.outside (by rfl)) (recomposeIf_storeKept _)
  | .stage p st => exact StoreKept.trans (.outside (by rfl)) (recomposeIf_storeKept _)
  | .setter armed =>
    show StoreKept s (effectSetter armed s)
    unfold effectSetter
    dsimp only
    split <;> exact .outside (by rfl)
  | .level l => exact .outside (by rfl)
  | .announce lr sr fr l => exact .outside (by rfl)

theorem greet_storeKept (isNew : Bool) : StoreKept s (greet isNew s) := by
  refine .ite (fun _ => ?_)
  unfold newStationActions
  dsimp only
  have first : StoreKept s
      (if s.params.shoeRole = true then sendStage (handOver .announce s) else handOver .announce s) := by
    split
    · exact (handOver_storeKept _).trans sendStage_storeKept
    · exact handOver_storeKept _
  split
  · exact first.trans (handOver_storeKept _)
  · exact first

theorem checkDuplicate_storeKept (mark : Mark) (header : Byte) : StoreKept s (checkDuplicate mark header s) := by
  refine .ite (fun _ => ?_)
  unfold detectDuplicate enterListen judgeReady
  dsimp only
  have seen : StoreKept s (setView
      { (reportFault .duplicateId 0 header 0 0 s).view with duplicateSeen := true }
      (reportFault .duplicateId 0 header 0 0 s)) :=
    (reportFault_storeKept _ _ _ _ _).trans (.outside (by rfl))
  split
  · exact seen.trans (.withMode (fun h => nomatch h) (by rfl))
  · exact seen
  · exact .refl s

theorem acceptFrame_storeKept (kind : Nat) : StoreKept s (acceptFrame kind s) := by
  unfold acceptFrame
  split
  · rename_i mark header m _
    have heard : StoreKept s (judgeReady (hear mark (headerOrigin header) m (stopLink mark s))) := .outside (by rfl)
    exact ((heard.trans (effect_storeKept mark header m)).trans (greet_storeKept _)).trans
      (checkDuplicate_storeKept mark header)
  · exact .refl s

end Sys2Proof.Machine
end

section
/-! PROOF. The commands and the store: which keep it, what the end of a write and a cold reset do to it; O5 and O11. -/

namespace Sys2Proof.Machine

variable {s : State}

/-! ### Resets and start-up -/

/-- After a reset nothing waits and nothing is in flight (R93, R94). -/
theorem oneWriteInFlight_of_reset {t : State} (store : t.store = Store.reset) (ops : t.ops = Sequencer.reset) :
    OneWriteInFlight t := by
  unfold OneWriteInFlight
  rw [store, ops]
  exact ⟨fun _ h => (nomatch h), ⟨fun ⟨_, h, _⟩ => (nomatch h), fun h => (nomatch h)⟩, fun h => (nomatch h),
    List.nodup_nil, fun _ => ⟨rfl, rfl⟩⟩

/-- A RESTART leaves the memory as it is (R224). -/
theorem warmRestart_storeKept : StoreKept s (warmRestart s) := by
  refine ⟨?_, fun _ _ h => (nomatch h), fun _ => oneWriteInFlight_of_reset rfl rfl⟩
  show (closeDriving .dropped (closeAll .dropped s.ops.list s)).memory = _
  rw [closeDriving_memory, closeAll_memory]

theorem reportClamped_storeKept (xs : List (Nat × Nat)) : StoreKept s (reportClamped xs s) := by
  induction xs generalizing s with
  | nil => exact .refl s
  | cons x xs ih => exact (reportFault_storeKept _ _ _ _ _).trans ih

theorem loadImage_storeKept (img : List Byte) : StoreKept s (loadImage img s) :=
  (reportClamped_storeKept _).trans (.outside (by rfl))

theorem loadLocks_storeKept : StoreKept s (loadLocks s) := .ite (fun _ => .outside (by rfl))

theorem loadCalibration_storeKept : StoreKept s (loadCalibration s) := by
  refine .ite (fun _ => ?_)
  dsimp only
  split
  · exact StoreKept.trans (.outside (by rfl)) (reportFault_storeKept _ _ _ _ _)
  · exact .outside (by rfl)

/-- At the load event the memory becomes IDLE; in STARTING no write is in flight (R93, R221). -/
theorem memIdle_storeKept {t : State} (hm : s.view.mode = .starting)
    (h : (t.memory, t.store.queue, t.store.writeTimer, t.ops.list, t.view.mode)
      = (s.memory, s.store.queue, s.store.writeTimer, s.ops.list, s.view.mode)) : StoreKept s t := by
  simp only [Prod.mk.injEq] at h
  obtain ⟨memory, queue, timer, list, mode⟩ := h
  refine ⟨memory, queue ▸ id, fun ⟨behind, head, busy, distinct, starting⟩ => ?_⟩
  have stopped : s.store.writeTimer.isSome = false := by
    rw [Bool.eq_false_iff, ne_eq, ← head, (starting hm).1]
    exact fun ⟨_, h, _⟩ => nomatch h
  unfold OneWriteInFlight
  rw [queue, timer, list, mode]
  exact ⟨behind, head, fun h => absurd h (by rw [stopped]; decide), distinct, starting⟩

theorem load_storeKept (hm : s.view.mode = .starting) : StoreKept s (load s) := by
  by_cases safe : s.start.safeStrap = true ∨ judgeImage (readImage s) ≠ .passed
  · rw [load_safe safe]; exact memIdle_storeKept hm (by rfl)
  · rw [not_or, Bool.not_eq_true, not_not] at safe
    rw [load_passed safe.1 safe.2]
    have passed : StoreKept s (imagePassed s) := memIdle_storeKept hm (by rfl)
    exact ((passed.trans (loadImage_storeKept _)).trans loadLocks_storeKept).trans loadCalibration_storeKept

/-- A station that completes its start leaves STARTING with nothing queued and nothing listed (R222). -/
theorem modeEntered_storeKept {mode : Mode} (h : mode ≠ .starting) (flash : Option Flash) :
    StoreKept s (modeEntered s mode flash) :=
  .withMode (fun hm => absurd hm h) rfl

theorem announceRun_storeKept : StoreKept s (announceRun s) := by
  have judged (u : State) : StoreKept u (judgeReady u) := .outside (by rfl)
  refine .ite (fun _ => ?_)
  dsimp only
  split
  · exact ((handOver_storeKept _).trans originationCheck_storeKept).trans (judged _)
  · exact (handOver_storeKept _).trans (judged _)

theorem complete_storeKept : StoreKept s (complete s) := by
  rw [complete_eq]
  refine StoreKept.trans ?_ announceRun_storeKept
  cases safe : s.start.safe
  · rw [enterMode_run safe]; exact modeEntered_storeKept (mode := .run) (by decide) _
  · rw [enterMode_safe safe]; exact modeEntered_storeKept (mode := .safe) (by decide) _

/-! ### The service port -/

theorem unlessStarting_storeKept {t : State} (h : s.view.mode ≠ .starting → StoreKept s t) :
    StoreKept s (unlessStarting s t) := by
  unfold unlessStarting
  split
  · exact .outside (by rfl)
  · rename_i hm; exact h hm

theorem answerWrite_storeKept {o : Option State} (h : ∀ u, o = some u → StoreKept s u) :
    StoreKept s (answerWrite o s) := by
  unfold answerWrite
  split
  · rename_i u; exact (h u rfl).trans (.outside (by rfl))
  · exact .outside (by rfl)

theorem takeRead_storeKept (req : FetchReq) : StoreKept s (takeRead req s) := by
  unfold takeRead
  split
  · exact .outside (by rfl)
  · exact StoreKept.trans (.outside (by rfl)) (requestFetch_storeKept _)

/-- A command that passed its tests brings bytes that fit: 8 for a slot, at most 64 for the image (R228). -/
theorem takeCommand_storeKept {c : ServiceCmd} (hc : c.legal = true) : StoreKept s (takeCommand c s) := by
  cases c with
  | ident => exact .outside (by rfl)
  | status g => exact .outside (by rfl)
  | channels => exact unlessStarting_storeKept (fun _ => .outside (by rfl))
  | journal k => exact .outside (by rfl)
  | slotRead l k => exact unlessStarting_storeKept (fun _ => takeRead_storeKept _)
  | slotWrite l k data =>
    refine unlessStarting_storeKept (fun hs => answerWrite_storeKept (fun u hu => ?_))
    exact enterWrite_storeKept (fun _ => hs) (Target.holds_slot l k (by simpa [ServiceCmd.legal] using hc)) hu
  | imageRead off len => exact unlessStarting_storeKept (fun _ => takeRead_storeKept _)
  | imageWrite off data =>
    refine unlessStarting_storeKept (fun hs => answerWrite_storeKept (fun u hu => enterImage_storeKept hs ?_ hu))
    simp only [ServiceCmd.legal, legalRange, Bool.and_eq_true, decide_eq_true_eq] at hc
    exact hc.1.2
  | lock l st =>
    refine unlessStarting_storeKept (fun hs => ?_)
    unfold takeLock
    split
    · exact (setLock_storeKept l st hs).trans (.outside (by rfl))
    · exact .outside (by rfl)
  | restart =>
    refine unlessStarting_storeKept (fun _ => ?_)
    unfold takeRestart
    split
    · exact warmRestart_storeKept
    · exact .outside (by rfl)

/-- A command that its range test lets through is legal where every such command is. -/
theorem legal_of_tested {p : Prop} [Decidable p] {f : p → ServiceCmd} {c : ServiceCmd} (legal : ∀ h, (f h).legal = true)
    (h : (if h : p then some (f h) else none) = some c) : c.legal = true := by
  split at h
  · rename_i hp
    cases h; exact legal hp
  · cases h

/-- A command that is judged good is legal, by code and number of arguments (R227, tests 3 to 5). -/
theorem parseCommand_legal {code : Nat} {args : List Byte} {c : ServiceCmd} (h : parseCommand code args = some c) :
    c.legal = true := by
  match code, args with
  | 0, _ => cases h
  | 1, [] | 3, [] | 10, [] => cases h; rfl
  | 1, _ :: _ | 3, _ :: _ | 10, _ :: _ => cases h
  | 2, [_] => exact legal_of_tested (fun _ => rfl) h
  | 2, [] | 2, _ :: _ :: _ => cases h
  | 4, [_] => cases h; rfl
  | 4, [] | 4, _ :: _ :: _ => cases h
  | 5, [_, _] | 9, [_, _] => exact legal_of_tested (fun _ => rfl) h
  | 5, [] | 5, [_] | 5, _ :: _ :: _ :: _ | 9, [] | 9, [_] | 9, _ :: _ :: _ :: _ => cases h
  | 6, _ :: _ :: data =>
    refine legal_of_tested (fun tested => ?_) h
    exact decide_eq_true tested.2
  | 6, [] | 6, [_] => cases h
  | 7, [_, _, _] =>
    refine legal_of_tested (fun tested => ?_) h
    exact tested
  | 7, [] | 7, [_] | 7, [_, _] | 7, _ :: _ :: _ :: _ :: _ => cases h
  | 8, _ :: _ :: n :: data =>
    refine legal_of_tested (fun tested => ?_) h
    rw [ServiceCmd.legal, tested.2]; exact tested.1
  | 8, [] | 8, [_] | 8, [_, _] => cases h
  | _ + 11, _ => cases h

theorem endCommand_storeKept (spoilt : Bool) (bytes : List Byte) : StoreKept s (endCommand spoilt bytes s) := by
  unfold endCommand judgeCommand
  dsimp only
  split
  · rename_i c hc
    refine StoreKept.trans (.outside (by rfl)) (takeCommand_storeKept ?_)
    split at hc
    · cases hc
    · split at hc
      · split at hc
        · cases hc
        · exact parseCommand_legal hc
      · cases hc
  · exact .outside (by rfl)

theorem serviceCommand_storeKept {t : State} (body : List Byte) (e : serviceCommand body s = .next t) :
    StoreKept s t := by
  cases e
  exact .ite (fun _ => endCommand_storeKept false _)

/-! ### Time -/

theorem LinkOnly.storeKept {t : State} (h : LinkOnly s t) : StoreKept s t := by
  obtain ⟨p, l, rfl⟩ := h
  exact .outside (by rfl)

theorem linkUs_storeKept : StoreKept s (linkUs s) := by
  unfold linkUs
  split
  · exact .refl s
  · exact seekingUs_linkOnly.storeKept.trans (.outside (by rfl))
  · exact idleUs_linkOnly.storeKept.trans (.outside (by rfl))
  · exact frameUs_linkOnly.storeKept.trans (.outside (by rfl))
  · exact frameUs_linkOnly.storeKept.trans (.outside (by rfl))

theorem usStep_storeKept : StoreKept s (usStep s) := by
  unfold usStep relayUs replyUs
  refine StoreKept.trans (StoreKept.trans linkUs_storeKept ?_) (.ite (fun _ => .outside (by rfl)))
  split
  · exact .refl _
  · exact .outside (by rfl)

theorem samplersTick_storeKept : StoreKept s (samplersTick s) := by
  have supply : StoreKept s (supplyTick s) := by
    unfold supplyTick
    split
    case h_6 => exact .refl s
    all_goals exact .outside (by rfl)
  have shoe (u : State) : StoreKept u (shoeTick u) := by
    unfold shoeTick
    split <;> exact .outside (by rfl)
  unfold samplersTick
  dsimp only
  have contacts : StoreKept s (if sampling s then contactsTick (supplyTick s) else s) :=
    .ite (fun _ => supply.trans (.outside (by rfl)))
  exact (contacts.trans (.ite (fun _ => .outside (by rfl)))).trans (.ite (fun _ => shoe _))

/-- The write timer runs on and neither starts nor stops (R84). -/
theorem storeTick_storeKept : StoreKept s (storeTick s) := by
  unfold storeTick
  split
  · exact .refl s
  · exact .outside (by simp [countUp])

theorem msTick_storeKept : StoreKept s (msTick s) := by
  have stall (u : State) : StoreKept u (stallTick u) := .ite (fun _ => .outside (by rfl))
  have timers : StoreKept s (timersTick { s with journal := { s.journal with timeTag := s.journal.timeTag + 1 } }) :=
    .outside (by rfl)
  have drives (u : State) : StoreKept u (drivesTick u) := .outside (by rfl)
  have start (u : State) : StoreKept u (startTick u) := .outside (by rfl)
  exact ((((timers.trans (stall _)).trans samplersTick_storeKept).trans (drives _)).trans storeTick_storeKept).trans
    (start _)

theorem idle_storeKept : StoreKept s (idle s) := by
  unfold idle clockStep
  dsimp only
  split
  · exact .outside (by rfl)
  · split
    · exact StoreKept.trans (.outside (by rfl)) usStep_storeKept
    · exact StoreKept.trans (.outside (by rfl)) msTick_storeKept

/-! ### The end of a write -/

/-- The head leaves the queue, and nothing is in flight (R83, R84). -/
theorem endWrite_oneWrite (lit : Bool) (h : OneWriteInFlight s) (hq : s.store.queue ≠ []) :
    OneWriteInFlight (endWrite lit s) := by
  have started := h.started_of_queue hq
  obtain ⟨behind, -, -, distinct, -⟩ := h
  have waits (e : WriteEntry) (he : s.store.queue.tail.head? = some e) : e.inFlight = false :=
    behind e (List.mem_of_mem_head? he)
  refine ⟨fun e he => behind e (List.mem_of_mem_tail he), ⟨?_, fun h => (nomatch h)⟩, fun h => (nomatch h), ?_,
    fun hm => absurd hm started⟩
  · rintro ⟨e, he, flies⟩
    rw [waits e he] at flies; cases flies
  · exact distinct.sublist (((List.tail_sublist _).filter _).map _)

/-- A write that fits its target leaves the entries fitting, in every mode (R79, R80). -/
theorem enterWrite_fits {t : Target} {d : List Byte} {k : Option (Fin 32)} {u : State} (hd : t.Holds d)
    (h : enterWrite t d k s = some u) (fits : ∀ e ∈ s.store.queue, e.fits = true) :
    ∀ e ∈ u.store.queue, e.fits = true := by
  unfold enterWrite at h
  split at h
  · cases h
  · rename_i q hq
    cases h; exact (enterQueue_queueKept hd hq).fits fits

theorem serveMark_fits (fits : ∀ e ∈ s.store.queue, e.fits = true) :
    ∀ e ∈ (serveMark s).store.queue, e.fits = true := by
  unfold serveMark writeCalibration writeLockByte
  split
  · split
    · rename_i h; exact enterWrite_fits (Target.holds_calibration _ _) h fits
    · exact fits
  · split
    · exact fits
    · rename_i n _
      split
      · rename_i h; exact enterWrite_fits (Target.holds_lockByte n _) h fits
      · exact fits

theorem afterWrite_fits (fits : ∀ e ∈ s.store.queue, e.fits = true) :
    ∀ e ∈ (afterWrite s).store.queue, e.fits = true :=
  issueWrite_storeKept.fits (serveMark_fits (serveFetch_storeKept.fits fits))

/-- What follows the end of a write keeps the memory in its regions (R83, R84). -/
theorem afterWrite_regions (h : StoreInRegions s) : StoreInRegions (afterWrite s) := by
  obtain ⟨wf, regions, fits⟩ := h
  unfold StoreInRegions
  rw [afterWrite_memory]
  exact ⟨wf, regions, afterWrite_fits fits⟩

theorem afterWrite_storeKept (hs : s.view.mode ≠ .starting) : StoreKept s (afterWrite s) := by
  have started : (serveFetch s).view.mode ≠ .starting := by rw [serveFetch_view]; exact hs
  exact (serveFetch_storeKept.trans (serveMark_storeKept started)).trans issueWrite_storeKept

theorem endWrite_regions (lit : Bool) (h : StoreInRegions s) : StoreInRegions (endWrite lit s) := by
  obtain ⟨wf, regions, fits⟩ := h
  exact ⟨wf, regions, fun e he => fits e (List.mem_of_mem_tail he)⟩

/-- A completed write of a waiting entry stays in its region (R83). -/
theorem storeWrite_regions {e : WriteEntry} (h : StoreInRegions s) (he : e ∈ s.store.queue) :
    StoreInRegions (storeWrite e s) := by
  obtain ⟨wf, regions, fits⟩ := h
  exact ⟨storeWrite_wf e s wf, memWriteRange_regions regions (fits e he) rfl, fits⟩

/-- A cut or faulted write of a waiting entry stays in its region (R73, R84). -/
theorem tearWrite_regions {e : WriteEntry} (h : StoreInRegions s) (he : e ∈ s.store.queue) :
    StoreInRegions (tearWrite e s) := by
  obtain ⟨wf, regions, fits⟩ := h
  refine ⟨tearWrite_wf e s wf, memWriteRange_regions regions (fits e he) ?_, fits⟩
  rw [tornBytes_length, memReadRange_length, min_self]

/-- What a faulted write does to the memory, by its target (R84). -/
theorem faultMemory_cases (e : WriteEntry) (s : State) :
    ((∃ l k, e.target = .slot l k) ∧ faultMemory e s = tearWrite e s)
      ∨ ((∀ l k, e.target ≠ .slot l k) ∧ faultMemory e s = s) := by
  unfold faultMemory
  split
  · rename_i l k ht; exact .inl ⟨⟨l, k, ht⟩, rfl⟩
  · rename_i other; exact .inr ⟨other, rfl⟩

theorem faultMemory_frame (e : WriteEntry) (s : State) :
    faultMemory e s = { s with memory := (faultMemory e s).memory, torn := (faultMemory e s).torn } := by
  rcases faultMemory_cases e s with ⟨-, h⟩ | ⟨-, h⟩
  · rw [h]; rfl
  · rw [h]

/-- The memory after a completion holds the entry's bytes (R83). -/
theorem completeWrite_memory (e : WriteEntry) (s : State) : (completeWrite e s).memory = (storeWrite e s).memory := by
  unfold completeWrite; rw [afterWrite_memory]; rfl

/-- The memory after a fault (R84). -/
theorem faultWrite_memory (e : WriteEntry) (s : State) : (faultWrite e s).memory = (faultMemory e s).memory := by
  unfold faultWrite; dsimp only; rw [afterWrite_memory]; rfl

theorem completeWrite_regions {e : WriteEntry} (h : StoreInRegions s) (he : e ∈ s.store.queue) :
    StoreInRegions (completeWrite e s) :=
  afterWrite_regions ((closeRecord_storeKept _ _ _).regions (endWrite_regions false (storeWrite_regions h he)))

theorem completeWrite_oneWrite {e : WriteEntry} (h : OneWriteInFlight s) (hq : s.store.queue ≠ []) :
    OneWriteInFlight (completeWrite e s) :=
  (StoreKept.trans (closeRecord_storeKept _ _ _) (afterWrite_storeKept (by exact h.started_of_queue hq))).oneWrite
    (endWrite_oneWrite (s := storeWrite e s) false h hq)

/-- The station as a faulted write leaves the queue (R84). -/
def faultRecorded (e : WriteEntry) (s : State) : State :=
  let s1 := reportStoreFault e.target (faultMemory e s)
  closeRecord (s1.store.queue.head?.bind (fun e => e.capture)) .failed (some .storeFault) s1

theorem faultWrite_eq (e : WriteEntry) (s : State) : faultWrite e s = afterWrite (endWrite true (faultRecorded e s)) :=
  rfl

/-- The records of a fault change nothing of the store but references (R208). -/
theorem faultRecorded_storeKept (e : WriteEntry) (s : State) : StoreKept (faultMemory e s) (faultRecorded e s) :=
  (reportFault_storeKept _ _ _ _ _).trans (closeRecord_storeKept _ _ _)

theorem faultRecorded_view (e : WriteEntry) (s : State) : (faultRecorded e s).view = s.view := by
  show (faultMemory e s).view = s.view
  rw [faultMemory_frame]

theorem faultRecorded_store (e : WriteEntry) (s : State) :
    (faultRecorded e s).store = s.store.dropRef s.journal.next := by
  show (faultMemory e s).store.dropRef (faultMemory e s).journal.next = _
  rw [faultMemory_frame]

theorem faultWrite_regions {e : WriteEntry} (h : StoreInRegions s) (he : e ∈ s.store.queue) :
    StoreInRegions (faultWrite e s) := by
  have torn : StoreInRegions (faultMemory e s) := by
    rcases faultMemory_cases e s with ⟨-, hm⟩ | ⟨-, hm⟩ <;> rw [hm]
    · exact tearWrite_regions h he
    · exact h
  rw [faultWrite_eq]
  exact afterWrite_regions (endWrite_regions true ((faultRecorded_storeKept e s).regions torn))

theorem faultWrite_oneWrite {e : WriteEntry} (h : OneWriteInFlight s) (hq : s.store.queue ≠ []) :
    OneWriteInFlight (faultWrite e s) := by
  have torn : OneWriteInFlight (faultMemory e s) := by rw [faultMemory_frame]; exact h
  have queue : (faultRecorded e s).store.queue ≠ [] := by rw [faultRecorded_store]; simpa [Store.dropRef] using hq
  have ended := endWrite_oneWrite true ((faultRecorded_storeKept e s).oneWrite torn) queue
  have started : (endWrite true (faultRecorded e s)).view.mode ≠ .starting := by
    show (faultRecorded e s).view.mode ≠ _
    rw [faultRecorded_view]; exact h.started_of_queue hq
  rw [faultWrite_eq]
  exact (afterWrite_storeKept started).oneWrite ended

/-! ### The commands -/

theorem execSupplyFirstSample_storeKept {t : State} (high : Bool) (e : execSupplyFirstSample high s = .next t) :
    StoreKept s t := by
  cases e
  refine .ite (fun _ => ?_)
  split
  · exact .outside (by rfl)
  · exact .trans (.outside (by rfl)) (reportFault_storeKept _ _ _ _ _)

theorem execSupplyLoss_storeKept {t : State} (e : execSupplyLoss s = .next t) : StoreKept s t := by
  cases e
  have held : StoreKept s (holdMoves s) := by unfold holdMoves; exact .outside (by rfl)
  have lost (u : State) : StoreKept u (setSupply .lost none u) := .outside (by rfl)
  exact .ite (fun _ => (held.trans (lost _)).trans (reportFault_storeKept _ _ _ _ _))

theorem execPulseStart_storeKept {t : State} (e : execPulseStart s = .next t) : StoreKept s t := by
  cases e
  split
  · exact .refl s
  · exact .ite (fun _ => .outside (by rfl))

theorem execPulseEnd_storeKept {t : State} (c : Chan) (e : execPulseEnd c s = .next t) : StoreKept s t := by
  cases e
  split
  · exact .outside (by rfl)
  · exact .refl s

theorem execVerify_storeKept {t : State} (c : Chan) (e : execVerify c s = .next t) : StoreKept s t := by
  cases e
  split
  · exact verifyMove_storeKept c _ _
  · exact .refl s

theorem execTakeUpHead_storeKept {t : State} (e : execTakeUpHead s = .next t) : StoreKept s t := by
  cases e
  split
  · exact .refl s
  · rename_i e rest hl
    exact .ite (fun _ => takeUp_storeKept e (by rw [hl]; exact List.cons_ne_nil e rest))

theorem execStoringCaptureRetake_storeKept {t : State} (e : execStoringCaptureRetake s = .next t) : StoreKept s t := by
  cases e
  split
  · exact .refl s
  · rename_i e rest hl
    split
    · exact takeCapture_storeKept _ _ _ (by rw [hl]; exact List.cons_ne_nil e rest)
    · exact .refl s

theorem execFetchResult_storeKept {t : State} (e : execFetchResult s = .next t) : StoreKept s t := by
  cases e
  split
  · exact .refl s
  · split
    · exact .refl s
    · rename_i f _ _ bytes _
      exact .trans (.trans (t := fetchFreed s) (.outside (by rfl))
        (deliverFetch_storeKept f.req bytes)) issueWaitingRecall_storeKept

theorem execFrameStart_storeKept {t : State} (e : execFrameStart s = .next t) : StoreKept s t := by
  cases e
  refine .ite (fun _ => ?_)
  split
  · exact .outside (by rfl)
  · exact .outside (by rfl)
  · exact .refl s

theorem execFrameReceived_storeKept {t : State} (f : WireFrame) (e : execFrameReceived f s = .next t) :
    StoreKept s t := by
  cases e
  refine .ite (fun _ => ?_)
  split
  · exact .ite (fun _ => .outside (by rfl))
  · exact .outside (by rfl)
  · exact .refl s

theorem execFrameNotAccepted_storeKept {t : State} (cause : StopCause) (e : execFrameNotAccepted cause s = .next t) :
    StoreKept s t := by
  cases e
  split
  · exact .refl s
  · split
    · unfold endObjected
      split
      · exact .trans (.outside (by rfl)) (countAttempt_storeKept _)
      · exact .outside (by rfl)
    · refine .ite (fun _ => ?_)
      unfold endVetoed
      split
      · exact .trans (.outside (by rfl)) (reportFault_storeKept _ _ _ _ _)
      · exact .outside (by rfl)

theorem execBrokenFrame_storeKept {t : State} (e : execBrokenFrame s = .next t) : StoreKept s t := by
  cases e
  split
  · exact .outside (by rfl)
  · exact .trans (.outside (by rfl)) (countAttempt_storeKept _)
  · exact .refl s

theorem execLinkStall_storeKept {t : State} (header : Option Byte) (e : execLinkStall header s = .next t) :
    StoreKept s t := by
  cases e
  split
  · exact .refl s
  · exact takeStall_storeKept header

theorem execGapTimerExpiry_storeKept {t : State} (e : execGapTimerExpiry s = .next t) : StoreKept s t := by
  cases e
  split
  · exact endCommand_storeKept _ _
  · exact .outside (by rfl)
  · exact .refl s

theorem execStopWithoutDelivery_storeKept {t : State} (e : execStopWithoutDelivery s = .next t) : StoreKept s t := by
  cases e
  split
  · exact .refl s
  · exact .ite (fun _ => .outside (by rfl))

/-- Every command but the end of a write and a cold reset keeps the store. -/
theorem exec_storeKept {t : State} {c : Instr} (hw : c ≠ .writeComplete) (hf : c ≠ .storeFault) (hr : c ≠ .coldReset)
    (e : exec c s = .next t) : StoreKept s t := by
  match c with
  | .coldReset => exact absurd rfl hr
  | .loadEvent => cases e; exact .ite (fun hc => load_storeKept hc.1)
  | .startUpCompletion => cases e; exact .ite (fun _ => complete_storeKept)
  | .debouncedChange c on => cases e; exact .ite (fun _ => debouncedChange_storeKept c on)
  | .shiftEnd => cases e; exact .outside (by rfl)
  | .pistonPress i => cases e; exact .ite (fun _ => .trans (t := setPiston i true s) (.outside (by rfl))
      (takePress_storeKept i))
  | .pistonRelease i =>
    cases e
    refine .ite (fun _ => .trans (t := setPiston i false s) (.outside (by rfl)) (.ite (fun _ => handOver_storeKept _)))
  | .sequenceEndTimerExpiry => cases e; exact .ite (fun _ => .outside (by rfl))
  | .sampleEvent r => cases e; exact .ite (fun _ => takeSample_storeKept r)
  | .intervalTimerExpiry => cases e; exact .ite (fun _ => endInterval_storeKept)
  | .supplyFirstSample high => exact execSupplyFirstSample_storeKept high e
  | .supplyLoss => exact execSupplyLoss_storeKept e
  | .supplyWaitStart => cases e; exact .ite (fun _ => .outside (by rfl))
  | .supplyWaitAbandon => cases e; exact .ite (fun _ => .outside (by rfl))
  | .restore => cases e; exact .ite (fun _ => restoreSupply_storeKept)
  | .pulseStart => exact execPulseStart_storeKept e
  | .pulseEnd c => exact execPulseEnd_storeKept c e
  | .verify c => exact execVerify_storeKept c e
  | .takeUpHead => exact execTakeUpHead_storeKept e
  | .storingCaptureRetake => exact execStoringCaptureRetake_storeKept e
  | .fetchServe => cases e; exact .ite (fun _ => serveFetch_storeKept)
  | .fetchResult => exact execFetchResult_storeKept e
  | .writeIssue => cases e; exact issueWrite_storeKept
  | .writeComplete => exact absurd rfl hw
  | .storeFault => exact absurd rfl hf
  | .synchronise => cases e; exact .ite (fun _ => .outside (by rfl))
  | .disturbance => cases e; exact .ite (fun _ => .outside (by rfl))
  | .frameStart => exact execFrameStart_storeKept e
  | .frameReceived f => exact execFrameReceived_storeKept f e
  | .stretchExpiry => cases e; exact .ite (fun _ => .outside (by rfl))
  | .frameNotAccepted cause => exact execFrameNotAccepted_storeKept cause e
  | .linkFaultTimerExpiry => cases e; exact .ite (fun _ => .outside (by rfl))
  | .brokenFrame => exact execBrokenFrame_storeKept e
  | .linkStall header => exact execLinkStall_storeKept header e
  | .cancelFrame => cases e; exact acceptFrame_storeKept 0
  | .recallFrame => cases e; exact acceptFrame_storeKept 1
  | .captureFrame => cases e; exact acceptFrame_storeKept 2
  | .handsetFrame => cases e; exact acceptFrame_storeKept 3
  | .toggleFrame => cases e; exact acceptFrame_storeKept 4
  | .tuttiFrame => cases e; exact acceptFrame_storeKept 5
  | .stageFrame => cases e; exact acceptFrame_storeKept 6
  | .setterFrame => cases e; exact acceptFrame_storeKept 7
  | .levelFrame => cases e; exact acceptFrame_storeKept 8
  | .announceFrame => cases e; exact acceptFrame_storeKept 9
  | .serviceByteArrival b framed => cases e; exact .outside (by rfl)
  | .gapTimerExpiry => exact execGapTimerExpiry_storeKept e
  | .ident => exact serviceCommand_storeKept _ e
  | .status group => exact serviceCommand_storeKept _ e
  | .channels => exact serviceCommand_storeKept _ e
  | .journal k => exact serviceCommand_storeKept _ e
  | .slotRead level slot => exact serviceCommand_storeKept _ e
  | .slotWrite level slot data => exact serviceCommand_storeKept _ e
  | .imageRead offset length => exact serviceCommand_storeKept _ e
  | .imageWrite offset data => exact serviceCommand_storeKept _ e
  | .serviceLock level state => exact serviceCommand_storeKept _ e
  | .restart => exact serviceCommand_storeKept _ e
  | .replyEnd => cases e; exact .ite (fun _ => .outside (by rfl))
  | .flashTimerExpiry f => cases e; cases f <;> exact .outside (by rfl)
  | .startReceiving => cases e; exact .ite (fun _ => .outside (by rfl))
  | .arbitrationLost => cases e; exact .ite (fun _ => .outside (by rfl))
  | .stopWithoutDelivery => exact execStopWithoutDelivery_storeKept e

/-- A cold reset leaves the memory in its regions, the write in flight cut or not (R73, R220). -/
theorem coldReset_regions (h : StoreInRegions s) : StoreInRegions (coldReset s) := by
  have cut : StoreInRegions (cutWrite s) := by
    unfold cutWrite
    split
    · exact h
    · rename_i e rest hq
      split
      · exact tearWrite_regions h (by rw [hq]; exact List.mem_cons_self)
      · exact h
  obtain ⟨wf, regions, -⟩ := cut
  exact ⟨wf, regions, fun _ h => (nomatch h)⟩

/-- The end of a write at a station: nothing, or that of the head in flight. -/
theorem exec_writeComplete_cases {t : State} (h : exec .writeComplete s = .next t) :
    t = s ∨ ∃ e rest, s.store.queue = e :: rest ∧ e.inFlight = true ∧ t = completeWrite e s := by
  cases h
  split
  · exact .inl rfl
  · rename_i e rest hq
    split
    · rename_i hf; exact .inr ⟨e, rest, hq, hf, rfl⟩
    · exact .inl rfl

theorem exec_storeFault_cases {t : State} (h : exec .storeFault s = .next t) :
    t = s ∨ ∃ e rest, s.store.queue = e :: rest ∧ e.inFlight = true ∧ t = faultWrite e s := by
  cases h
  split
  · exact .inl rfl
  · rename_i e rest hq
    split
    · rename_i hf; exact .inr ⟨e, rest, hq, hf, rfl⟩
    · exact .inl rfl

/-- Every command keeps the laws of the store (R74, R79, R82). -/
theorem exec_storeLaws {t : State} (c : Instr) (h : exec c s = .next t) :
    (StoreInRegions s → StoreInRegions t) ∧ (OneWriteInFlight s → OneWriteInFlight t) := by
  by_cases hw : c = .writeComplete
  · subst hw
    rcases exec_writeComplete_cases h with rfl | ⟨e, rest, hq, -, rfl⟩
    · exact ⟨id, id⟩
    · exact ⟨fun h => completeWrite_regions h (by rw [hq]; exact List.mem_cons_self),
        fun h => completeWrite_oneWrite h (by rw [hq]; exact List.cons_ne_nil e rest)⟩
  by_cases hf : c = .storeFault
  · subst hf
    rcases exec_storeFault_cases h with rfl | ⟨e, rest, hq, -, rfl⟩
    · exact ⟨id, id⟩
    · exact ⟨fun h => faultWrite_regions h (by rw [hq]; exact List.mem_cons_self),
        fun h => faultWrite_oneWrite h (by rw [hq]; exact List.cons_ne_nil e rest)⟩
  by_cases hr : c = .coldReset
  · subst hr
    cases h
    exact ⟨coldReset_regions, fun _ => oneWriteInFlight_of_reset rfl rfl⟩
  · have kept := exec_storeKept hw hf hr h
    exact ⟨kept.regions, kept.oneWrite⟩

/-- Settles O5: a step runs the front command, or the station goes on by itself and keeps the store. -/
theorem stepKeepsStoreLaws : Obligations.StepKeepsStoreLaws := by
  unfold Obligations.StepKeepsStoreLaws
  intro s t h
  unfold step at h
  split at h
  · rename_i c rest _
    exact exec_storeLaws (s := { s with pending := rest }) c h
  · cases h
    exact ⟨idle_storeKept.regions, idle_storeKept.oneWrite⟩

/-- A faulted write leaves the memory outside its target (R84). -/
theorem faultMemory_memRead (e : WriteEntry) (a : Nat)
    (h : a < targetAddress e.target ∨ targetAddress e.target + e.data.length ≤ a) :
    memRead (faultMemory e s).memory a = memRead s.memory a := by
  rcases faultMemory_cases e s with ⟨-, hm⟩ | ⟨-, hm⟩ <;> rw [hm]
  exact tearWrite_memRead e a h

/-- Settles O11: every other command keeps the memory, and these three write inside the target of the head alone. -/
theorem memoryChangesOnlyAtTheWriteInFlight : Obligations.MemoryChangesOnlyAtTheWriteInFlight := by
  unfold Obligations.MemoryChangesOnlyAtTheWriteInFlight
  intro c s t h
  refine ⟨fun hw hf hr => (exec_storeKept hw hf hr h).memory, fun a outside => ?_⟩
  by_cases hw : c = .writeComplete
  · subst hw
    rcases exec_writeComplete_cases h with rfl | ⟨e, rest, hq, flies, rfl⟩
    · rfl
    · rw [completeWrite_memory]
      exact memRead_memWriteRange_other _ _ _ _ (outside e (by rw [hq]; rfl) flies)
  by_cases hf : c = .storeFault
  · subst hf
    rcases exec_storeFault_cases h with rfl | ⟨e, rest, hq, flies, rfl⟩
    · rfl
    · rw [faultWrite_memory]
      exact faultMemory_memRead e a (outside e (by rw [hq]; rfl) flies)
  by_cases hr : c = .coldReset
  · subst hr
    cases h
    exact cutWrite_memRead a outside
  · rw [(exec_storeKept hw hf hr h).memory]

end Sys2Proof.Machine
end

section
/-! PROOF. Slot records: the bytes of a pattern, the pattern of bytes, and the classification (R75–R77). -/

namespace Sys2Proof.Machine

/-- A byte shifted to place k gives the channels 8k to 8k + 7 alone. -/
theorem shiftedByte_getLsbD (b : Byte) (k : Nat) {q i : Nat} (hq : q < 6) (hi : i < 8) :
    (b.setWidth 48 <<< (8 * k)).getLsbD (8 * q + i) = (decide (q = k) && b.getLsbD i) := by
  rw [BitVec.getLsbD_shiftLeft, BitVec.getLsbD_setWidth]
  rcases lt_trichotomy q k with h | rfl | h
  · simp [show 8 * q + i < 8 * k by omega, h.ne]
  · simp [show 8 * q + i < 48 by omega, show i < 48 by omega]
  · rw [BitVec.getLsbD_of_ge b (8 * q + i - 8 * k) (by omega)]
    simp [h.ne']

/-- Bit i of byte q is channel 8q + i (R75). -/
theorem bytesSet_getLsbD (bs : List Byte) {q i : Nat} (hq : q < 6) (hi : i < 8) :
    (bytesSet bs).getLsbD (8 * q + i) = (bs.getD q 0).getLsbD i := by
  have placed (b : Byte) (k : Nat) := shiftedByte_getLsbD b k hq hi
  have first : ((bs.getD 0 0).setWidth 48).getLsbD (8 * q + i) = (decide (q = 0) && (bs.getD 0 0).getLsbD i) := by
    simpa using placed (bs.getD 0 0) 0
  unfold bytesSet
  simp only [BitVec.getLsbD_or, first, placed _ 1, placed _ 2, placed _ 3, placed _ 4, placed _ 5]
  interval_cases q <;> simp

/-- Byte q of a pattern, bit i, is channel 8q + i (R75). -/
theorem patternBytes_getLsbD (x : ChanSet) (rest : List Byte) {q i : Nat} (hq : q < 6) (hi : i < 8) :
    ((patternBytes x ++ rest).getD q 0).getLsbD i = x.getLsbD (8 * q + i) := by
  have byte (k : Nat) : (x.extractLsb' k 8).getLsbD i = x.getLsbD (k + i) := by
    rw [BitVec.getLsbD_extractLsb']; simp [hi]
  interval_cases q
  · exact (byte 0).trans (by simp)
  all_goals exact byte _

/-- Two sets of channels with the same bits in their bytes are equal. -/
theorem chanSet_ext_bytes {x y : ChanSet} (h : ∀ q < 6, ∀ i < 8, x.getLsbD (8 * q + i) = y.getLsbD (8 * q + i)) :
    x = y := by
  refine BitVec.eq_of_getLsbD_eq fun n hn => ?_
  have := h (n / 8) (by omega) (n % 8) (by omega)
  rwa [Nat.div_add_mod] at this

/-- The bytes of a pattern give it back, whatever follows them (R75). -/
theorem bytesSet_patternBytes (x : ChanSet) (rest : List Byte) : bytesSet (patternBytes x ++ rest) = x :=
  chanSet_ext_bytes fun q hq i hi => by rw [bytesSet_getLsbD _ hq hi, patternBytes_getLsbD x rest hq hi]

/-- The pattern of some bytes has the first six of them (R75). -/
theorem patternBytes_bytesSet {bs : List Byte} (h : 6 ≤ bs.length) : patternBytes (bytesSet bs) = bs.take 6 := by
  refine List.ext_getElem (by simp [patternBytes, h]) fun q hq _ => ?_
  have hq : q < 6 := hq
  rw [List.getElem_take]
  refine BitVec.eq_of_getLsbD_eq fun i hi => ?_
  have bits := patternBytes_getLsbD (bytesSet bs) [] hq hi
  rw [bytesSet_getLsbD bs hq hi, List.append_nil, List.getD_eq_getElem _ _ hq,
    List.getD_eq_getElem _ _ (hq.trans_le h)] at bits
  exact bits

/-- The written record of a pattern is its bytes, the state byte and the check (R75, R76). -/
theorem writtenRecord_eq (x : ChanSet) :
    writtenRecord x = patternBytes x ++ [0x5A, crc8 (patternBytes x ++ [0x5A])] := by
  unfold writtenRecord; simp

theorem classify_writtenRecord (x : ChanSet) : classify (writtenRecord x) = .written x := by
  have state : (writtenRecord x).getD 6 0 = 0x5A := rfl
  have check : crc8 ((writtenRecord x).take 7) = (writtenRecord x).getD 7 0 := rfl
  unfold classify
  rw [if_neg (by rw [state]; decide), if_pos ⟨state, check⟩, writtenRecord_eq, bytesSet_patternBytes]

/-- Settles O14: the record of a pattern by its bits, and any record by its state byte and check. -/
theorem slotRecordRoundTrip : Obligations.SlotRecordRoundTrip := by
  unfold Obligations.SlotRecordRoundTrip
  refine ⟨fun x => ⟨writtenRecord_length x, classify_writtenRecord x, fun c => ?_⟩, fun r hr => ?_⟩
  · rw [writtenRecord_eq, patternBytes_getLsbD x _ (by omega) (by omega), Nat.div_add_mod]
  · have state : r[6]? = some (r.getD 6 0) := by simp [hr]
    have check : r[7]? = some (r.getD 7 0) := by simp [hr]
    rw [state, check]
    clear state check
    unfold classify
    generalize r.getD 6 0 = state
    generalize r.getD 7 0 = check
    simp only [Option.some.injEq, ne_eq]
    by_cases blank : state = 0xFF
    · rw [if_pos blank]
      exact ⟨by simp [blank], fun x hx => (nomatch hx), by simp [blank]⟩
    · rw [if_neg blank]
      by_cases good : state = 0x5A ∧ crc8 (r.take 7) = check
      · rw [if_pos good]
        refine ⟨by simpa using blank, fun x hx => ?_, by simp [good.1, good.2]⟩
        cases hx
        exact ⟨good.1, good.2.symm, patternBytes_bytesSet (by omega)⟩
      · rw [if_neg good]
        refine ⟨by simpa using blank, fun x hx => (nomatch hx), ?_⟩
        simp only [true_iff]
        exact ⟨blank, fun h => good ⟨h.1, h.2.symm⟩⟩

end Sys2Proof.Machine
end

section
/-! PROOF. The lock table: a flag set, and the write of its byte entered or deferred (R80, R81, R88); LOCK at a piston
(R138). -/

namespace Sys2Proof.Machine

/-- A write that has a place is entered, and a capture that it replaces closes SUPERSEDED (R80). -/
theorem enterWrite_entered {t : Target} {d : List Byte} {c : Option (Fin 32)} {s : State} {q : List WriteEntry}
    (h : enterQueue s.store.queue t d c = some q) :
    enterWrite t d c s = some { s with
      store := { s.store with queue := q }
      journal := s.journal.close (replacedCapture s.store.queue t) .superseded none } := by
  unfold enterWrite; rw [h]; rfl

theorem enterWrite_refused {t : Target} {d : List Byte} {c : Option (Fin 32)} {s : State}
    (h : enterQueue s.store.queue t d c = none) : enterWrite t d c s = none := by
  unfold enterWrite; rw [h]

theorem writeLockByte_entered {n : Fin 32} {s : State} {q : List WriteEntry}
    (h : enterQueue s.store.queue (.lockByte n) [lockByteOf s.store.lockCopy n] none = some q) :
    writeLockByte n s = { s with
      store := { s.store with queue := q }
      journal := s.journal.close (replacedCapture s.store.queue (.lockByte n)) .superseded none } := by
  unfold writeLockByte; rw [enterWrite_entered h]

theorem writeLockByte_deferred {n : Fin 32} {s : State}
    (h : enterQueue s.store.queue (.lockByte n) [lockByteOf s.store.lockCopy n] none = none) :
    writeLockByte n s
      = { s with store := { s.store with lockMarks := s.store.lockMarks ||| BitVec.twoPow 32 n.val } } := by
  unfold writeLockByte; rw [enterWrite_refused h]

theorem getLsbD_or_twoPow {w : Nat} (x : BitVec w) (m n : Fin w) :
    (x ||| BitVec.twoPow w n.val).getLsbD m.val = (decide (m = n) || x.getLsbD m.val) := by
  rw [BitVec.getLsbD_or, BitVec.getLsbD_twoPow, Bool.or_comm]
  simp [Fin.ext_iff, eq_comm]

theorem getLsbD_andNot_twoPow {w : Nat} (x : BitVec w) (m n : Fin w) :
    (x &&& ~~~ BitVec.twoPow w n.val).getLsbD m.val = (decide (m ≠ n) && x.getLsbD m.val) := by
  rw [BitVec.getLsbD_and, BitVec.getLsbD_not, BitVec.getLsbD_twoPow, Bool.and_comm]
  simp [Fin.ext_iff, eq_comm]

/-- The state t after the level's flag is set to `lock` in state s: that flag and no other, the write of its byte
entered, or marked where it has no place (R80, R81, R88). -/
structure LockSet (level : Fin 256) (lock : Bool) (s t : State) : Prop where
  frame : t = { s with store := t.store, journal := t.journal }
  flags : ∀ l, locked t.store.lockCopy l = if l = level then lock else locked s.store.lockCopy l
  store : t.store = { s.store with
    lockCopy := t.store.lockCopy
    queue := t.store.queue
    lockMarks := t.store.lockMarks }
  entered : ∀ (n : Fin 32) q, n.val = level.val / 8 →
    enterQueue s.store.queue (.lockByte n) [lockByteOf t.store.lockCopy n] none = some q →
    t.store.queue = q ∧ t.store.lockMarks = s.store.lockMarks
      ∧ t.journal = s.journal.close (replacedCapture s.store.queue (.lockByte n)) .superseded none
  deferred : ∀ n : Fin 32, n.val = level.val / 8 →
    enterQueue s.store.queue (.lockByte n) [lockByteOf t.store.lockCopy n] none = none →
    t.store.queue = s.store.queue ∧ t.journal = s.journal
      ∧ ∀ m : Fin 32, t.store.lockMarks.getLsbD m.val = (decide (m = n) || s.store.lockMarks.getLsbD m.val)

/-- The lock table copy with one level's flag set. -/
def flagged (copy : BitVec 256) (level : Fin 256) (lock : Bool) : BitVec 256 :=
  if lock then copy &&& ~~~ BitVec.twoPow 256 level.val else copy ||| BitVec.twoPow 256 level.val

theorem locked_flagged (copy : BitVec 256) (level : Fin 256) (lock : Bool) (l : Fin 256) :
    locked (flagged copy level lock) l = if l = level then lock else locked copy l := by
  unfold locked flagged
  by_cases same : l = level <;> cases lock <;>
    simp only [if_true, Bool.false_eq_true, if_false, getLsbD_or_twoPow, getLsbD_andNot_twoPow] <;> simp [same]

theorem setLock_eq (level : Fin 256) (lock : Bool) (s : State) :
    setLock level lock s = writeLockByte (Fin.ofNat 32 (level.val / 8))
      { s with store := { s.store with lockCopy := flagged s.store.lockCopy level lock } } := rfl

theorem setLock_lockSet (level : Fin 256) (lock : Bool) (s : State) : LockSet level lock s (setLock level lock s) := by
  have place (n : Fin 32) (h : n.val = level.val / 8) : Fin.ofNat 32 (level.val / 8) = n :=
    Fin.ext (by rw [Fin.val_ofNat, ← h, Nat.mod_eq_of_lt n.isLt])
  rw [setLock_eq]
  cases entry : enterQueue s.store.queue (.lockByte (Fin.ofNat 32 (level.val / 8)))
      [lockByteOf (flagged s.store.lockCopy level lock) (Fin.ofNat 32 (level.val / 8))] none with
  | some q =>
    rw [writeLockByte_entered entry]
    refine ⟨rfl, locked_flagged _ level lock, rfl, fun n q' h e => ?_, fun n h e => ?_⟩ <;> cases place n h
    · cases entry.symm.trans e
      exact ⟨rfl, rfl, rfl⟩
    · cases entry.symm.trans e
  | none =>
    rw [writeLockByte_deferred entry]
    refine ⟨rfl, locked_flagged _ level lock, rfl, fun n q' h e => ?_, fun n h e => ?_⟩ <;> cases place n h
    · cases entry.symm.trans e
    · exact ⟨rfl, rfl, fun m => getLsbD_or_twoPow _ m _⟩

/-- A press in RUN is the act of the input's function (R125, R126). -/
theorem exec_pistonPress_run {s : State} {i : Fin 32} (run : s.view.mode = .run) (sampled : pistonsSampled s = true)
    (released : s.pistons.inputs[i].pressed = false) :
    exec (.pistonPress i) s = .next (pressAct s.params.pistonFns[i] (setPiston i true s)) := by
  change execPistonPress i s = _
  unfold execPistonPress takePress
  rw [if_pos (by rw [sampled, released]; rfl), show (setPiston i true s).view.mode = .run from run]
  rfl

/-- Settles O28: with the role and the setter the press is `setLock`, else it is ignored. -/
theorem lockPressInvertsTheFlag : Obligations.LockPressInvertsTheFlag := by
  unfold Obligations.LockPressInvertsTheFlag
  intro s i run sampled released lockFn pistons n
  have press : exec (.pistonPress i) s = .next (pressLock (setPiston i true s)) := by
    rw [exec_pistonPress_run run sampled released, lockFn]; rfl
  refine ⟨fun role setter => ?_, fun h => ?_⟩
  · have acts : pressLock (setPiston i true s)
        = setLock s.view.level (!locked s.store.lockCopy s.view.level) (setPiston i true s) :=
      if_pos (by simp [setPiston, role, setter])
    obtain ⟨frame, flags, store, entered, deferred⟩ :=
      setLock_lockSet s.view.level (!locked s.store.lockCopy s.view.level) (setPiston i true s)
    have hn : n.val = s.view.level.val / 8 := Nat.mod_eq_of_lt (by omega)
    rw [press, acts]
    refine ⟨_, rfl, frame, fun l => ?_, store, fun q => entered n q hn, deferred n hn⟩
    rw [flags l]
    by_cases same : l = s.view.level
    · rw [if_pos same, if_pos same, same]
    · rw [if_neg same, if_neg same]; rfl
  · rw [press]
    refine congrArg Host.Outcome.next (if_neg ?_)
    rcases h with h | h <;> simp [setPiston, h]

end Sys2Proof.Machine
end

section
/-! PROOF. The frame whole at its last check bit and the answers it prepares (R89, R91, R158–R160, R165). -/

namespace Sys2Proof.Machine

/-- The list needs an operation for the message exactly when it makes one with an affected set here (R24, R25). -/
theorem needsOperation_iff (s : State) (mark : Mark) (m : Msg) :
    needsOperation s mark m = true ↔ ∃ body, operationOf mark m = some body ∧ affectedSet s body ≠ 0 := by
  unfold needsOperation
  cases operationOf mark m <;> simp

theorem holdDecision_iff (s : State) (mark : Mark) (m : Msg) :
    holdDecision s mark m = true ↔ s.view.mode = .run ∧ s.ops.list.length = 8
      ∧ ∃ body, operationOf mark m = some body ∧ affectedSet s body ≠ 0 := by
  unfold holdDecision
  rw [Bool.and_eq_true, Bool.and_eq_true, needsOperation_iff, decide_eq_true_iff, decide_eq_true_iff, and_assoc]
  exact and_congr_right fun _ => and_comm

theorem capturesLocked_iff (s : State) (m : Msg) :
    capturesLocked s m = true ↔ ∃ l k, m = .capture l k ∧ locked s.store.lockCopy l.toFin = true := by
  cases m <;> simp [capturesLocked]

theorem vetoDecision_iff (s : State) (m : Msg) :
    vetoDecision s m = true ↔ s.view.mode = .run ∧ s.params.levelRole = true
      ∧ ∃ l k, m = .capture l k ∧ locked s.store.lockCopy l.toFin = true := by
  unfold vetoDecision
  rw [Bool.and_eq_true, Bool.and_eq_true, capturesLocked_iff, decide_eq_true_iff, and_assoc]

/-- An answer is prepared for a good check, by the decision about the frame's message. -/
def answers (ok : Bool) (f : WireFrame) (decision : Msg → Bool) : Bool :=
  ok && (match frameMsg f with
    | some m => decision m
    | none => false)

theorem answers_iff (ok : Bool) (f : WireFrame) (decision : Msg → Bool) :
    answers ok f decision = true ↔ ok = true ∧ ∃ m, frameMsg f = some m ∧ decision m = true := by
  unfold answers
  cases frameMsg f <;> simp

theorem frameWhole_eq (f : WireFrame) (mark : Mark) (ok : Bool) (s : State) :
    frameWhole f mark ok s = { s with link := { s.link with
      assembly := some f
      objection := decide (s.view.mode = .run) && !ok && decide (headerKind f.header ≤ 9)
      hold := answers ok f (holdDecision s mark)
      veto := answers ok f (vetoDecision s)
      stretch := if answers ok f (holdDecision s mark) then some 0 else none } } := rfl

/-- A frame whole at a receiver, with its check as sampled, or at its transmitter, as sent and good. -/
theorem exec_frameReceived {s : State} {f g : WireFrame} {mark : Mark} (idle : s.link.assembly = none)
    (h : mark = .received ∧ s.link.line = .receiving ∧ frameWholeLength f = true ∧ g = f
      ∨ mark = .transmitted ∧ s.link.line = .sending
        ∧ ∃ h, s.link.hand = some h ∧ g = wireFrame h.frame.kind s.start.station h.payload) :
    exec (.frameReceived f) s = .next (frameWhole g mark (decide (mark = .transmitted) || frameGood g) s) := by
  change execFrameReceived f s = _
  unfold execFrameReceived
  rw [if_pos idle]
  rcases h with ⟨rfl, line, whole, rfl⟩ | ⟨rfl, line, hand, inHand, rfl⟩
  · simp only [line, if_pos whole]; rfl
  · simp only [line, inHand]; rfl

/-- Settles O49: the answers are the decisions of the frame's message, for a check that is good. -/
theorem wholeFramePreparesItsAnswers : Obligations.WholeFramePreparesItsAnswers := by
  unfold Obligations.WholeFramePreparesItsAnswers
  intro s f g mark idle h good
  have ok : (decide (mark = .transmitted) || frameGood g) = true ↔ good := by simp [good]
  refine ⟨_, _, _, (exec_frameReceived idle h).trans (congrArg Host.Outcome.next (frameWhole_eq _ _ _ _)), ?_, ?_, ?_⟩
  · rw [← ok]
    simp only [Bool.and_eq_true, Bool.not_eq_true', decide_eq_true_iff, Bool.not_eq_true, and_assoc]
  · rw [answers_iff, ok]
    constructor
    · rintro ⟨isGood, m, msg, decided⟩
      obtain ⟨run, full, body, makes, affects⟩ := (holdDecision_iff s mark m).1 decided
      exact ⟨run, isGood, full, m, body, msg, makes, affects⟩
    · rintro ⟨run, isGood, full, m, body, msg, makes, affects⟩
      exact ⟨isGood, m, msg, (holdDecision_iff s mark m).2 ⟨run, full, body, makes, affects⟩⟩
  · rw [answers_iff, ok]
    constructor
    · rintro ⟨isGood, m, msg, decided⟩
      obtain ⟨run, role, l, k, rfl, isLocked⟩ := (vetoDecision_iff s m).1 decided
      exact ⟨run, isGood, role, l, k, msg, isLocked⟩
    · rintro ⟨run, isGood, role, l, k, msg, isLocked⟩
      exact ⟨isGood, _, msg, (vetoDecision_iff s _).2 ⟨run, role, l, k, rfl, isLocked⟩⟩

end Sys2Proof.Machine
end

section
/-! PROOF. The service commands of the store given whole: reads, writes and LOCK (R79, R80, R85, R88, R227–R233). -/

namespace Sys2Proof.Machine

/-- The station after its port has judged a command (R226). -/
def ended (s : State) : State := { s with port := s.port.judged }

/-! ### A command given whole (R227) -/

/-- The bytes of a command and their sum byte sum to 00h (R227). -/
theorem withSum_sum (body : List Byte) : (withSum body).foldl (· + ·) 0 = 0 := by
  rw [withSum, List.foldl_append]
  simp [sumByte]

theorem judgeCommand_withSum (code : Byte) (args : List Byte) :
    judgeCommand (withSum (code :: args)) = parseCommand code.toNat args := by
  have body : (withSum (code :: args)).dropLast = code :: args := List.dropLast_concat
  unfold judgeCommand
  rw [if_pos (withSum_sum _), body]

theorem serviceCommand_taken {code : Byte} {args : List Byte} {c : ServiceCmd} {s : State}
    (free : PortFree (code :: args) s) (parsed : parseCommand code.toNat args = some c) :
    serviceCommand (code :: args) s = .next (takeCommand c (ended s)) := by
  unfold serviceCommand endCommand
  rw [if_pos (show portTakes _ s = true from free), if_neg Bool.false_ne_true, judgeCommand_withSum, parsed]
  rfl

theorem serviceCommand_refused {code : Byte} {args : List Byte} {s : State}
    (free : PortFree (code :: args) s) (parsed : parseCommand code.toNat args = none) :
    serviceCommand (code :: args) s = .next (answered .badcmd [] s) := by
  unfold serviceCommand endCommand
  rw [if_pos (show portTakes _ s = true from free), if_neg Bool.false_ne_true, judgeCommand_withSum, parsed]
  rfl

theorem unlessStarting_starting {s t : State} (h : s.view.mode = .starting) :
    unlessStarting (ended s) t = answered .busy [] s := if_pos h

theorem unlessStarting_started {s t : State} (h : s.view.mode ≠ .starting) : unlessStarting (ended s) t = t := if_neg h

/-! ### The commands of the store and their ranges (R227, R228) -/

theorem wordBytes_toNat (w : Word) : ∃ hi lo, wordBytes w = [hi, lo] ∧ hi.toNat * 256 + lo.toNat = w.toNat := by
  refine ⟨byteOf (w.toNat / 256), byteOf w.toNat, rfl, ?_⟩
  have small := w.isLt
  unfold byteOf
  rw [BitVec.toNat_ofNat, BitVec.toNat_ofNat]
  omega

theorem legalRange_iff (offset length : Nat) :
    legalRange offset length = true ↔ 1 ≤ length ∧ length ≤ 64 ∧ offset + length ≤ 0x400 := by
  simp [legalRange, and_assoc]

theorem parse_slotRead (l k : Byte) : parseCommand 5 [l, k]
    = if k.toNat < 128 then some (.slotRead l.toFin (Fin.ofNat 128 k.toNat)) else none := by
  by_cases h : k.toNat < 128
  · rw [if_pos h]
    exact (dif_pos h).trans (by simp [Fin.ofNat, Nat.mod_eq_of_lt h])
  · rw [if_neg h]
    exact dif_neg h

theorem parse_slotWrite (l k : Byte) (data : List Byte) : parseCommand 6 (l :: k :: data)
    = if k.toNat < 128 ∧ data.length = 8 then some (.slotWrite l.toFin (Fin.ofNat 128 k.toNat) data) else none := by
  by_cases h : k.toNat < 128 ∧ data.length = 8
  · rw [if_pos h]
    exact (dif_pos h).trans (by simp [Fin.ofNat, Nat.mod_eq_of_lt h.1])
  · rw [if_neg h]
    exact dif_neg h

theorem parse_imageRead (offset : Word) (n : Byte) : parseCommand 7 (wordBytes offset ++ [n])
    = if legalRange offset.toNat n.toNat then some (.imageRead offset.toNat n.toNat) else none := by
  obtain ⟨hi, lo, bytes, value⟩ := wordBytes_toNat offset
  rw [bytes, ← value]
  rfl

theorem parse_imageWrite (offset : Word) (n : Byte) (data : List Byte) :
    parseCommand 8 (wordBytes offset ++ [n] ++ data)
    = if legalRange offset.toNat n.toNat ∧ data.length = n.toNat then
        some (.imageWrite offset.toNat data) else none := by
  obtain ⟨hi, lo, bytes, value⟩ := wordBytes_toNat offset
  rw [bytes, ← value]
  rfl

theorem parse_lock (l st : Byte) :
    parseCommand 9 [l, st] = if st.toNat < 2 then some (.lock l.toFin (decide (st = 1))) else none := rfl

/-- An image write's length byte holds its length, or its range is refused (R228). -/
theorem parse_imageWrite_length (offset : Word) (data : List Byte) :
    parseCommand 8 (wordBytes offset ++ [byteOf data.length] ++ data)
      = if 1 ≤ data.length ∧ data.length ≤ 64 ∧ offset.toNat + data.length ≤ 0x400 then
          some (.imageWrite offset.toNat data) else none := by
  have length : (byteOf data.length).toNat = data.length % 256 := BitVec.toNat_ofNat _ _
  rw [parse_imageWrite]
  refine if_congr ?_ rfl rfl
  rw [legalRange_iff, length]
  omega

/-! ### Reads (R85, R232) -/

/-- A request of the free fetch path holds its bytes at once where they can be had (R85, R86). -/
theorem requestFetch_eq (req : FetchReq) (s : State) : requestFetch req s
    = { s with store := { s.store with fetch := some { req := req, result := fetchData req s } } } := by
  have data : fetchData req { s with store := { s.store with fetch := some { req := req, result := none } } }
      = fetchData req s := by cases req <;> rfl
  unfold requestFetch serveFetch
  simp only [data]
  cases fetchData req s <;> rfl

theorem takeRead_busy {s : State} (req : FetchReq) (h : s.store.fetch ≠ none) :
    takeRead req (ended s) = answered .busy [] s := by
  obtain ⟨f, hf⟩ := Option.ne_none_iff_exists'.1 h
  unfold takeRead
  rw [show (ended s).store.fetch = some f from hf]
  rfl

theorem takeRead_taken {s : State} (req : FetchReq) (h : s.store.fetch = none) :
    takeRead req (ended s) = { s with
      port := { s.port.judged with state := .executing }
      store := { s.store with fetch := some { req := req, result := fetchData req s } } } := by
  have data (p : Port) : fetchData req { s with port := p } = fetchData req s := by cases req <;> rfl
  unfold takeRead
  rw [show (ended s).store.fetch = none from h]
  refine (requestFetch_eq req _).trans ?_
  rw [show fetchData req { ended s with port := { (ended s).port with state := .executing } } = fetchData req s from
    data _]
  rfl

/-! ### Writes (R80, R233) -/

theorem enterQueue_eq_none_iff {q : List WriteEntry} {t : Target} {d : List Byte} {c : Option (Fin 32)} :
    enterQueue q t d c = none ↔ q.any (waitsFor t) = false ∧ 8 ≤ q.length := by
  unfold enterQueue
  by_cases h : q.any (waitsFor t) = true
  · simp [h]
  · have full : q.length < Config.writeCapacity ↔ ¬ 8 ≤ q.length := Nat.not_le.symm
    rw [if_neg h]
    by_cases room : 8 ≤ q.length
    · rw [if_neg (by rw [full]; exact not_not_intro room)]; simp [h, room]
    · rw [if_pos (full.2 room)]; simp [room]

theorem newEntries_cons (q : List WriteEntry) (td : Target × List Byte) (ts : List (Target × List Byte)) :
    newEntries q (td :: ts) = (if q.any (waitsFor td.1) then 0 else 1) + newEntries q ts := by
  unfold newEntries
  rw [List.filter_cons]
  by_cases h : q.any (waitsFor td.1) = true <;> simp [h, Nat.add_comm]

/-- A write takes a waiting entry's place, or a new one at the end (R80). -/
theorem enterQueue_cases {q r : List WriteEntry} {t : Target} {d : List Byte} {c : Option (Fin 32)}
    (h : enterQueue q t d c = some r) :
    q.any (waitsFor t) = true
        ∧ r = q.map (fun e => if waitsFor t e then { e with data := d, capture := c } else e)
      ∨ q.any (waitsFor t) = false ∧ q.length < 8
        ∧ r = q ++ [{ target := t, data := d, inFlight := false, capture := c }] := by
  unfold enterQueue at h
  split at h
  next waits => cases h; exact .inl ⟨waits, rfl⟩
  next fresh =>
    split at h
    next room => cases h; exact .inr ⟨Bool.eq_false_iff.2 fresh, room, rfl⟩
    next => cases h

theorem enterQueue_length_eq {q r : List WriteEntry} {t : Target} {d : List Byte} {c : Option (Fin 32)}
    (h : enterQueue q t d c = some r) : r.length = q.length + (if q.any (waitsFor t) then 0 else 1) := by
  obtain ⟨waits, rfl⟩ | ⟨fresh, -, rfl⟩ := enterQueue_cases h
  · simp [waits]
  · simp [fresh]

/-- A write of one target does not change whether another one waits. -/
theorem enterQueue_waits_other {q r : List WriteEntry} {t u : Target} {d : List Byte} {c : Option (Fin 32)}
    (h : enterQueue q t d c = some r) (other : t ≠ u) : r.any (waitsFor u) = q.any (waitsFor u) := by
  obtain ⟨-, rfl⟩ | ⟨-, -, rfl⟩ := enterQueue_cases h
  · rw [List.any_map]
    refine congrArg q.any (funext fun e => ?_)
    show waitsFor u (if waitsFor t e then { e with data := d, capture := c } else e) = waitsFor u e
    split <;> rfl
  · simp [waitsFor, other]

theorem newEntries_enterQueue {q r : List WriteEntry} {t : Target} {d : List Byte} {c : Option (Fin 32)}
    {ts : List (Target × List Byte)} (h : enterQueue q t d c = some r) (fresh : t ∉ ts.map Prod.fst) :
    newEntries r ts = newEntries q ts := by
  unfold newEntries
  refine congrArg List.length (List.filter_congr fun td htd => ?_)
  rw [enterQueue_waits_other h]
  rintro rfl
  exact fresh (List.mem_map_of_mem htd)

theorem enterAll_entered {t : Target} {d : List Byte} {ts : List (Target × List Byte)} {s : State} {q : List WriteEntry}
    (h : enterQueue s.store.queue t d none = some q) :
    enterAll ((t, d) :: ts) s = enterAll ts { s with
      store := { s.store with queue := q }
      journal := s.journal.close (replacedCapture s.store.queue t) .superseded none } := by
  rw [enterAll, enterWrite_entered h]

theorem enterAll_refused {t : Target} {d : List Byte} {ts : List (Target × List Byte)} {s : State}
    (h : enterQueue s.store.queue t d none = none) : enterAll ((t, d) :: ts) s = none := by
  rw [enterAll, enterWrite_refused h]

/-- Writes of different targets that need more places than there are do not all find one (R80). -/
theorem enterAll_eq_none (ts : List (Target × List Byte)) :
    ∀ s : State, (ts.map Prod.fst).Nodup → s.store.queue.length ≤ 8 →
      8 < s.store.queue.length + newEntries s.store.queue ts → enterAll ts s = none := by
  induction ts with
  | nil =>
    intro s _ room more
    exact absurd more (by simp only [newEntries, List.filter_nil, List.length_nil]; omega)
  | cons td ts ih =>
    intro s distinct room more
    obtain ⟨fresh, distinct⟩ := List.nodup_cons.1 distinct
    cases entry : enterQueue s.store.queue td.1 td.2 none with
    | none => exact enterAll_refused entry
    | some r =>
      rw [enterAll_entered entry]
      have length := enterQueue_length_eq entry
      rw [newEntries_cons] at more
      refine ih _ distinct (enterQueue_length _ _ _ _ _ room entry) ?_
      show 8 < r.length + newEntries r ts
      rw [newEntries_enterQueue entry fresh]
      omega

theorem imageTargets_nodup (offset : Nat) (data : List Byte) : ((imageTargets offset data).map Prod.fst).Nodup := by
  unfold imageTargets
  dsimp only
  split
  next => exact List.nodup_singleton _
  next =>
    refine List.nodup_cons.2 ⟨fun h => ?_, List.nodup_singleton _⟩
    obtain ⟨page, -, -⟩ := Target.image.inj (List.mem_singleton.1 h)
    have := congrArg Fin.val page
    simp only [Fin.val_ofNat] at this
    omega

/-- Two pages or none: where both have no place, the first is not entered either (R80). -/
theorem enterImage_eq {s : State} (offset : Nat) (data : List Byte) (room : s.store.queue.length ≤ 8) :
    enterImage offset data s = enterAll (imageTargets offset data) s := by
  unfold enterImage
  dsimp only
  split
  next => rfl
  next more => exact (enterAll_eq_none _ s (imageTargets_nodup offset data) room (Nat.lt_of_not_le more)).symm

theorem imageTargets_page {page : Fin 4} {first : Fin 256} {data : List Byte} (h : first.val + data.length ≤ 256) :
    imageTargets (page.val * 256 + first.val) data = [(.image page first data.length, data)] := by
  have offset : (page.val * 256 + first.val) % 256 = first.val := by omega
  have quot : (page.val * 256 + first.val) / 256 = page.val := by omega
  unfold imageTargets
  simp only [offset, quot]
  rw [if_pos (by omega)]
  simp [Fin.ofNat, Nat.mod_eq_of_lt page.isLt, Nat.mod_eq_of_lt first.isLt]

theorem imageTargets_crossing {page next : Fin 4} {first : Fin 256} {data : List Byte} (hn : next.val = page.val + 1)
    (h : 256 < first.val + data.length) : imageTargets (page.val * 256 + first.val) data
      = [(.image page first (256 - first.val), data.take (256 - first.val)),
        (.image next 0 (data.length - (256 - first.val)), data.drop (256 - first.val))] := by
  have offset : (page.val * 256 + first.val) % 256 = first.val := by omega
  have quot : (page.val * 256 + first.val) / 256 = page.val := by omega
  unfold imageTargets
  simp only [offset, quot]
  rw [if_neg (by omega), ← hn]
  simp [Fin.ofNat, Nat.mod_eq_of_lt page.isLt, Nat.mod_eq_of_lt next.isLt, Nat.mod_eq_of_lt first.isLt]

/-! ### The eight commands -/

/-- SLOT READ and IMAGE READ in their ranges take the fetch path (R228, R232). -/
theorem exec_read {cmd : Instr} {body : List Byte} {req : FetchReq} {l k n : Byte} {offset : Word} {s : State}
    (free : PortFree body s)
    (h : cmd = .slotRead l k ∧ body = [0x05, l, k] ∧ k.toNat < 128 ∧ req = .slotRead l.toFin (Fin.ofNat 128 k.toNat)
      ∨ cmd = .imageRead offset n ∧ body = [0x07] ++ wordBytes offset ++ [n]
        ∧ 1 ≤ n.toNat ∧ n.toNat ≤ 64 ∧ offset.toNat + n.toNat ≤ 0x400 ∧ req = .imageRead offset.toNat n.toNat) :
    exec cmd s = .next (unlessStarting (ended s) (takeRead req (ended s))) := by
  obtain ⟨rfl, rfl, inRange, rfl⟩ | ⟨rfl, rfl, inRange, inRange', inRange'', rfl⟩ := h
  · exact serviceCommand_taken free ((parse_slotRead l k).trans (if_pos inRange))
  · exact serviceCommand_taken free ((parse_imageRead offset n).trans
      (if_pos ((legalRange_iff _ _).2 ⟨inRange, inRange', inRange''⟩)))

/-- SLOT WRITE and IMAGE WRITE in their ranges: the writes of the slot, or of the image's pages (R228, R233). -/
def writesOf (cmd : Instr) : List (Target × List Byte) :=
  match cmd with
  | .slotWrite l k data => [(.slot l.toFin (Fin.ofNat 128 k.toNat), data)]
  | .imageWrite offset data => imageTargets offset.toNat data
  | _ => []

theorem exec_write {cmd : Instr} {body : List Byte} {l k : Byte} {data : List Byte} {offset : Word} {s : State}
    (free : PortFree body s) (room : s.store.queue.length ≤ 8)
    (h : cmd = .slotWrite l k data ∧ body = [0x06, l, k] ++ data ∧ k.toNat < 128 ∧ data.length = 8
      ∨ cmd = .imageWrite offset data ∧ body = [0x08] ++ wordBytes offset ++ [byteOf data.length] ++ data
        ∧ 1 ≤ data.length ∧ data.length ≤ 64 ∧ offset.toNat + data.length ≤ 0x400) :
    exec cmd s = .next (unlessStarting (ended s) (answerWrite (enterAll (writesOf cmd) (ended s)) (ended s))) := by
  obtain ⟨rfl, rfl, inRange⟩ | ⟨rfl, rfl, inRange⟩ := h
  · refine (serviceCommand_taken free ((parse_slotWrite l k data).trans (if_pos inRange))).trans ?_
    have one : enterAll (writesOf (.slotWrite l k data)) (ended s)
        = enterWrite (.slot l.toFin (Fin.ofNat 128 k.toNat)) data none (ended s) := by
      simp only [writesOf, enterAll]
      cases enterWrite (.slot l.toFin (Fin.ofNat 128 k.toNat)) data none (ended s) <;> rfl
    rw [one]
    rfl
  · refine (serviceCommand_taken free ((parse_imageWrite_length offset data).trans (if_pos inRange))).trans ?_
    rw [show enterAll (writesOf (.imageWrite offset data)) (ended s) = enterImage offset.toNat data (ended s) from
      (enterImage_eq (s := ended s) _ _ room).symm]
    rfl

theorem exec_serviceLock {l state : Byte} {on : Bool} {s : State} (free : PortFree [0x09, l, state] s)
    (h : state = boolByte on) :
    exec (.serviceLock l state) s = .next (unlessStarting (ended s) (takeLock l.toFin on (ended s))) := by
  have parsed : parseCommand 9 [l, state] = some (.lock l.toFin on) := by
    rw [parse_lock, h]; cases on <;> rfl
  exact serviceCommand_taken free parsed

/-- The targets of a write command are the first one and the page that follows it, if there is one (R79, R233). -/
theorem writesOf_eq {cmd : Instr} {l k : Byte} {data first : List Byte} {offset : Word} {t : Target}
    {more : Option (Target × List Byte)}
    (h : cmd = .slotWrite l k data ∧ t = .slot l.toFin (Fin.ofNat 128 k.toNat) ∧ first = data ∧ more = none
      ∨ (∃ (page : Fin 4) (offs : Fin 256), cmd = .imageWrite offset data
          ∧ offset.toNat = page.val * 256 + offs.val
          ∧ (offs.val + data.length ≤ 256 ∧ t = .image page offs data.length ∧ first = data ∧ more = none
            ∨ ∃ next : Fin 4, next.val = page.val + 1 ∧ 256 < offs.val + data.length
                ∧ t = .image page offs (256 - offs.val) ∧ first = data.take (256 - offs.val)
                ∧ more = some (.image next 0 (data.length - (256 - offs.val)),
                    data.drop (256 - offs.val))))) :
    writesOf cmd = (t, first) :: more.toList := by
  obtain ⟨rfl, rfl, rfl, rfl⟩ | ⟨page, offs, rfl, place, h⟩ := h
  · rfl
  · have targets : writesOf (.imageWrite offset data) = imageTargets (page.val * 256 + offs.val) data := by
      rw [← place]; rfl
    rw [targets]
    obtain ⟨one, rfl, rfl, rfl⟩ | ⟨next, hn, two, rfl, rfl, rfl⟩ := h
    · exact imageTargets_page one
    · exact imageTargets_crossing hn two

/-- A lock set by the service line leaves the answer OK, and the flag as `setLock` leaves it (R88, R233). -/
theorem takeLock_set {level : Fin 256} {lock : Bool} {s : State} (works : working s = true)
    (role : s.params.levelRole = true) :
    ∃ u, takeLock level lock (ended s) = answered .ok [] u ∧ LockSet level lock s u := by
  obtain ⟨frame, flags, store, entered, deferred⟩ := setLock_lockSet level lock (ended s)
  refine ⟨{ s with store := (setLock level lock (ended s)).store, journal := (setLock level lock (ended s)).journal },
    ?_, rfl, flags, store, entered, deferred⟩
  refine (if_pos (by rw [Bool.and_eq_true]; exact ⟨works, role⟩)).trans ?_
  rw [frame]
  rfl

theorem takeLock_notRole {level : Fin 256} {lock : Bool} {s : State}
    (h : s.view.mode = .safe ∨ working s = true ∧ s.params.levelRole = false) :
    takeLock level lock (ended s) = answered .notRole [] s := by
  refine if_neg ?_
  rw [show working (ended s) = working s from rfl, show (ended s).params = s.params from rfl]
  obtain safe | ⟨-, role⟩ := h
  · simp [working, safe]
  · simp [role]

/-- Settles O59: each command by its parse, then the read, the writes in order or the lock. -/
theorem storeCommandsReadWriteAndLock : Obligations.StoreCommandsReadWriteAndLock := by
  unfold Obligations.StoreCommandsReadWriteAndLock
  intro s l k n data offset
  refine ⟨fun cmd body req free h => ?_, fun cmd body free room h => ?_, fun state on free h => ?_, fun free h => ?_,
    fun free h => ?_, fun free h => ?_, fun free h => ?_, fun free h => ?_⟩
  case refine_1 =>
    rw [exec_read free h]
    refine ⟨fun busy => congrArg Host.Outcome.next ?_, fun started idle => ?_⟩
    · by_cases starting : s.view.mode = .starting
      · exact unlessStarting_starting starting
      · rw [unlessStarting_started starting, takeRead_busy req (busy.resolve_left starting)]
    · rw [unlessStarting_started started, takeRead_taken req idle]
  case refine_2 =>
    rw [exec_write free room h]
    refine ⟨fun starting => congrArg Host.Outcome.next (unlessStarting_starting starting),
      fun t more first started w => ?_⟩
    rw [unlessStarting_started started, writesOf_eq w]
    intro closed
    cases entry : enterQueue s.store.queue t first none with
    | none => rw [enterAll_refused (s := ended s) entry]; rfl
    | some q =>
      rw [enterAll_entered (s := ended s) entry]
      rcases more with _ | ⟨t2, second⟩
      · rfl
      · dsimp only
        cases entry2 : enterQueue q t2 second none with
        | none =>
          exact congrArg (fun o => Host.Outcome.next (answerWrite o (ended s))) (enterAll_refused (by exact entry2))
        | some q2 =>
          exact congrArg (fun o => Host.Outcome.next (answerWrite o (ended s))) (enterAll_entered (by exact entry2))
  case refine_3 =>
    rw [exec_serviceLock free h]
    refine ⟨fun starting => congrArg Host.Outcome.next (unlessStarting_starting starting), fun noRole => ?_,
      fun works role => ?_⟩
    · have started : s.view.mode ≠ .starting := by
        rintro starting
        simp [working, starting] at noRole
      rw [unlessStarting_started started, takeLock_notRole noRole]
    · have started : s.view.mode ≠ .starting := by
        rintro starting
        simp [working, starting] at works
      obtain ⟨u, taken, frame, flags, store, entered, deferred⟩ :=
        takeLock_set (level := l.toFin) (lock := on) works role
      rw [unlessStarting_started started, taken]
      exact ⟨u, rfl, frame, store, flags, fun m hm => ⟨fun q => entered m q hm, deferred m hm⟩⟩
  case refine_4 => exact serviceCommand_refused free ((parse_slotRead l k).trans (if_neg (by omega)))
  case refine_5 => exact serviceCommand_refused free ((parse_lock l k).trans (if_neg (by omega)))
  case refine_6 =>
    exact serviceCommand_refused free ((parse_imageRead offset n).trans (if_neg (by rw [legalRange_iff]; omega)))
  case refine_7 => exact serviceCommand_refused free ((parse_slotWrite l k data).trans (if_neg (by omega)))
  case refine_8 =>
    exact serviceCommand_refused free ((parse_imageWrite_length offset data).trans (if_neg (by omega)))

end Sys2Proof.Machine
end

section
/-! PROOF. What follows the end of a write in its event: the fetch served, one mark served, the next head issued
(R81–R86). -/

namespace Sys2Proof.Machine

/-! ### The journal: a closed record stays -/

theorem Journal.close_frame (j : Journal) (ref : Option (Fin 32)) (st : RecState) (o : Option FaultCode) :
    j.close ref st o = { j with records := (j.close ref st o).records } := j.update_frame ref _

/-- A closing leaves every record that is not OPEN (R204). -/
theorem Journal.close_notOpen {j : Journal} {p : Fin 32} {r : Record} (ref : Option (Fin 32)) (st : RecState)
    (o : Option FaultCode) (hp : j.records[p] = some r) (ho : r.state ≠ .opened) :
    (j.close ref st o).records[p] = some r := by
  by_cases named : ref = some p
  · subst named
    unfold Journal.close Journal.update
    dsimp only
    rw [hp]
    dsimp only
    rw [if_neg ho]
    exact hp
  · rw [j.close_other ref st o p named]
    exact hp

/-! ### The bytes that a fetch is served -/

/-- The bytes of a request with the memory IDLE: the newest entry of its slot, else those of the memory (R85, R86). -/
def storedBytes (q : List WriteEntry) (m : Memory) : FetchReq → List Byte
  | .recall l k | .slotRead l k => (newestData q (.slot l k)).getD (memReadRange m (slotAddress l k) 8)
  | .imageRead off len => memReadRange m off len

theorem fetchData_idle {s : State} (req : FetchReq) (h : s.store.mem = .idle) :
    fetchData req s = some (storedBytes s.store.queue s.memory req) := by
  have slot (l : Fin 256) (k : Fin 128) : (match newestData s.store.queue (.slot l k) with
        | some d => some d
        | none => if s.store.mem = .idle then some (memReadRange s.memory (slotAddress l k) 8) else none)
      = some ((newestData s.store.queue (.slot l k)).getD (memReadRange s.memory (slotAddress l k) 8)) := by
    cases newestData s.store.queue (.slot l k) with
    | some d => rfl
    | none => exact if_pos h
  match req with
  | .recall l k => exact slot l k
  | .slotRead l k => exact slot l k
  | .imageRead off len => exact if_pos h

theorem newestData_none {q : List WriteEntry} {t : Target} (h : ∀ x ∈ q, x.target ≠ t) : newestData q t = none := by
  unfold newestData
  rw [List.filter_eq_nil_iff.2 fun x hx => by simpa using h x hx]
  rfl

/-- The entry of the target that no newer one follows is the newest (R86). -/
theorem newestData_split {older newer : List WriteEntry} {x : WriteEntry} {t : Target} (hx : x.target = t)
    (h : ∀ y ∈ newer, y.target ≠ t) : newestData (older ++ x :: newer) t = some x.data := by
  have others : newer.filter (fun e => decide (e.target = t)) = [] :=
    List.filter_eq_nil_iff.2 fun y hy => by simpa using h y hy
  unfold newestData
  rw [List.filter_append, List.filter_cons_of_pos (by simpa using hx), others, List.getLast?_concat]
  rfl

/-- The result of a waiting fetch served with entries q left in the queue: a slot's bytes are forwarded from the newest
entry of the slot, or read from the memory (R85, R86). -/
def ServedFrom (q : List WriteEntry) (m : Memory) (before after : Option Fetch) : Prop :=
  ∀ req, before = some { req := req, result := none } →
    let served := fun bytes => some ({ req := req, result := some bytes } : Fetch)
    (∀ l k, req = .recall l k ∨ req = .slotRead l k →
      ((∀ x ∈ q, x.target ≠ .slot l k) → after = served (memReadRange m (slotAddress l k) 8))
      ∧ ∀ older x newer, q = older ++ x :: newer → x.target = .slot l k →
          (∀ y ∈ newer, y.target ≠ .slot l k) → after = served x.data)
    ∧ ∀ off len, req = .imageRead off len → after = served (memReadRange m off len)

theorem servedFrom_storedBytes {q : List WriteEntry} {m : Memory} {before after : Option Fetch}
    (h : ∀ req, before = some { req := req, result := none } →
      after = some { req := req, result := some (storedBytes q m req) }) : ServedFrom q m before after := by
  intro req waits served
  have result := h req waits
  refine ⟨fun l k slot => ?_, fun off len image => by subst image; exact result⟩
  have bytes : storedBytes q m req = (newestData q (.slot l k)).getD (memReadRange m (slotAddress l k) 8) := by
    rcases slot with rfl | rfl <;> rfl
  rw [result, bytes]
  refine ⟨fun absent => ?_, fun older x newer hq hx hy => ?_⟩
  · rw [newestData_none absent]; rfl
  · rw [hq, newestData_split hx hy]; rfl

/-! ### The store after the end of a write -/

/-- The store as a write leaves it at its end: these entries left, the memory IDLE and the write timer stopped
(R83, R84). -/
def Store.ended (st : Store) (left : List WriteEntry) (lit : Bool) : Store :=
  { st with queue := left, mem := .idle, writeTimer := none, faultLit := lit }

/-- The issue at the end sets the queue, the memory and the timer, whatever they were. -/
theorem Store.headIssued_congr (left q : List WriteEntry) (m : MemState) (w : Option Nat) (st : Store) :
    Store.headIssued left { st with queue := q, mem := m, writeTimer := w } = Store.headIssued left st := by
  unfold Store.headIssued
  cases left <;> rfl

theorem Store.headIssued_fetch (left : List WriteEntry) (st : Store) : (Store.headIssued left st).fetch = st.fetch := by
  unfold Store.headIssued
  cases left with
  | nil => rfl
  | cons e more => dsimp only; split <;> rfl

theorem Store.headIssued_faultLit (left : List WriteEntry) (st : Store) :
    (Store.headIssued left st).faultLit = st.faultLit := by
  unfold Store.headIssued
  cases left with
  | nil => rfl
  | cons e more => dsimp only; split <;> rfl

theorem Store.headIssued_lockMarks (left : List WriteEntry) (st : Store) :
    (Store.headIssued left st).lockMarks = st.lockMarks := by
  unfold Store.headIssued
  cases left with
  | nil => rfl
  | cons e more => dsimp only; split <;> rfl

/-! ### One deferred mark served (R81) -/

theorem enterQueue_room {q : List WriteEntry} (t : Target) (d : List Byte) (c : Option (Fin 32)) (room : q.length < 8) :
    ∃ r, enterQueue q t d c = some r := by
  refine Option.ne_none_iff_exists'.1 fun full => ?_
  have := (enterQueue_eq_none_iff.1 full).2
  omega

theorem serveMark_none {s : State} (cal : s.store.calMark = false) (locks : s.store.lockMarks = 0) :
    serveMark s = s := by
  have unmarked : (List.finRange 32).find? (fun n => s.store.lockMarks.getLsbD n.val) = none :=
    List.find?_eq_none.2 fun n _ => by simp [locks]
  unfold serveMark
  rw [if_neg (by simp [cal]), unmarked]

theorem serveMark_calibration {s : State} {q : List WriteEntry} (cal : s.store.calMark = true)
    (h : enterQueue s.store.queue .calibration (calibrationBytes s.store.c0 s.store.c1) none = some q) :
    serveMark s = { s with
      store := { s.store with calMark := false, queue := q }
      journal := s.journal.close (replacedCapture s.store.queue .calibration) .superseded none } := by
  unfold serveMark writeCalibration
  rw [if_pos cal, enterWrite_entered (s := { s with store := { s.store with calMark := false } }) h]

theorem serveMark_lockByte {s : State} {n : Fin 32} {q : List WriteEntry} (cal : s.store.calMark = false)
    (set : s.store.lockMarks.getLsbD n.val = true)
    (least : ∀ m : Fin 32, m < n → s.store.lockMarks.getLsbD m.val = false)
    (h : enterQueue s.store.queue (.lockByte n) [lockByteOf s.store.lockCopy n] none = some q) :
    serveMark s = { s with
      store := { s.store with lockMarks := s.store.lockMarks &&& ~~~ BitVec.twoPow 32 n.val, queue := q }
      journal := s.journal.close (replacedCapture s.store.queue (.lockByte n)) .superseded none } := by
  have first : (List.finRange 32).find? (fun n => s.store.lockMarks.getLsbD n.val) = some n :=
    Fin.find?_eq_find?_finRange.symm.trans (Fin.find?_eq_some_iff.2 ⟨set, least⟩)
  unfold serveMark
  rw [if_neg (by simp [cal]), first]
  exact writeLockByte_entered
    (s := { s with store := { s.store with lockMarks := s.store.lockMarks &&& ~~~ BitVec.twoPow 32 n.val } }) h

/-- Serving a mark closes at most one record (R42, R81). -/
theorem serveMark_journal (s : State) : ∃ ref, (serveMark s).journal = s.journal.close ref .superseded none := by
  have lockByte (n : Fin 32) (s : State) :
      ∃ ref, (writeLockByte n s).journal = s.journal.close ref .superseded none := by
    cases entry : enterQueue s.store.queue (.lockByte n) [lockByteOf s.store.lockCopy n] none with
    | some q => rw [writeLockByte_entered entry]; exact ⟨_, rfl⟩
    | none => rw [writeLockByte_deferred entry]; exact ⟨none, rfl⟩
  unfold serveMark
  split
  · unfold writeCalibration
    cases entry : enterQueue s.store.queue .calibration (calibrationBytes s.store.c0 s.store.c1) none with
    | some q =>
      rw [enterWrite_entered (s := { s with store := { s.store with calMark := false } }) entry]
      exact ⟨_, rfl⟩
    | none =>
      rw [enterWrite_refused (s := { s with store := { s.store with calMark := false } }) entry]
      exact ⟨none, rfl⟩
  · split
    · exact ⟨none, rfl⟩
    · exact lockByte _ _

/-! ### The end of a write, said once for completion and fault (R83, R84) -/

/-- The store t after the end of a write of the store st, with these entries left and the memory m. -/
structure EndOfWrite (st : Store) (left : List WriteEntry) (lit : Bool) (m : Memory) (t : Store) : Prop where
  faultLit : t.faultLit = lit
  noMarks : st.calMark = false → st.lockMarks = 0 →
    t = Store.headIssued left { st with faultLit := lit, fetch := t.fetch }
  fetchKept : (∀ f, st.fetch = some f → f.result ≠ none) → t.fetch = st.fetch
  fetchServed : ∀ req, st.fetch = some { req := req, result := none } →
    t.fetch = some { req := req, result := some (storedBytes left m req) }
  calibration : st.calMark = true → left.length < 8 →
    ∃ q, enterQueue left .calibration (calibrationBytes st.c0 st.c1) none = some q
      ∧ t = Store.headIssued q { st with calMark := false, faultLit := lit, fetch := t.fetch }
  lockByte : ∀ n : Fin 32, st.calMark = false → st.lockMarks.getLsbD n.val = true →
    (∀ m : Fin 32, m < n → st.lockMarks.getLsbD m.val = false) → left.length < 8 →
    ∃ q, enterQueue left (.lockByte n) [lockByteOf st.lockCopy n] none = some q
      ∧ t = Store.headIssued q { st with lockMarks := t.lockMarks, faultLit := lit, fetch := t.fetch }
      ∧ ∀ m : Fin 32, t.lockMarks.getLsbD m.val = (decide (m ≠ n) && st.lockMarks.getLsbD m.val)

theorem afterWrite_fetch {u : State} (idle : u.store.mem = .idle) (timer : u.store.writeTimer = none) :
    (afterWrite u).store.fetch = (serveFetch u).store.fetch := by
  rw [afterWrite_idle u idle timer]
  show (Store.headIssued _ _).fetch = _
  rw [Store.headIssued_fetch, serveMark_store]

theorem afterWrite_endOfWrite {u : State} {st : Store} {left : List WriteEntry} {lit : Bool}
    (h : u.store = st.ended left lit) : EndOfWrite st left lit u.memory (afterWrite u).store := by
  have idle : u.store.mem = .idle := by rw [h]; rfl
  have timer : u.store.writeTimer = none := by rw [h]; rfl
  have fetch := afterWrite_fetch idle timer
  have issued : (afterWrite u).store
      = Store.headIssued (serveMark (serveFetch u)).store.queue (serveMark (serveFetch u)).store := by
    rw [afterWrite_idle u idle timer]
  have served : (serveFetch u).store = { st.ended left lit with fetch := (afterWrite u).store.fetch } := by
    rw [fetch, (serveFetch_idle u idle).2, h]
  have fetchOf (f : Option Fetch) (hf : st.fetch = f) : u.store.fetch = f := by rw [h]; exact hf
  refine ⟨?_, fun cal locks => ?_, fun ready => ?_, fun req waits => ?_, fun cal room => ?_,
    fun n cal set least room => ?_⟩
  · rw [issued, Store.headIssued_faultLit, serveMark_store, served]
    rfl
  · have unmarked : serveMark (serveFetch u) = serveFetch u :=
      serveMark_none (by rw [served]; exact cal) (by rw [served]; exact locks)
    rw [unmarked] at issued
    refine issued.trans ?_
    rw [served]
    exact Store.headIssued_congr left _ _ _ { st with faultLit := lit, fetch := (afterWrite u).store.fetch }
  · rw [fetch]
    unfold serveFetch
    cases hf : st.fetch with
    | none => simp only [fetchOf _ hf]
    | some f =>
      obtain ⟨d, hd⟩ := Option.ne_none_iff_exists'.1 (ready f hf)
      simp only [fetchOf _ hf, hd]
  · rw [fetch]
    unfold serveFetch
    simp only [fetchOf _ waits, fetchData_idle req idle]
    rw [h]
    rfl
  · obtain ⟨q, entry⟩ := enterQueue_room .calibration (calibrationBytes st.c0 st.c1) none room
    have mark := serveMark_calibration (s := serveFetch u) (q := q) (by rw [served]; exact cal)
      (by rw [served]; exact entry)
    rw [mark] at issued
    refine ⟨q, entry, issued.trans ?_⟩
    rw [served]
    exact Store.headIssued_congr q _ _ _
      { st with calMark := false, faultLit := lit, fetch := (afterWrite u).store.fetch }
  · obtain ⟨q, entry⟩ := enterQueue_room (.lockByte n) [lockByteOf st.lockCopy n] none room
    have mark := serveMark_lockByte (s := serveFetch u) (q := q) (by rw [served]; exact cal) (by rw [served]; exact set)
      (by rw [served]; exact least) (by rw [served]; exact entry)
    rw [mark] at issued
    have marks : (afterWrite u).store.lockMarks = st.lockMarks &&& ~~~ BitVec.twoPow 32 n.val := by
      rw [issued, Store.headIssued_lockMarks, served]
      rfl
    refine ⟨q, entry, issued.trans ?_, fun m => by rw [marks, getLsbD_andNot_twoPow]⟩
    rw [served, marks]
    exact Store.headIssued_congr q _ _ _ { st with
      lockMarks := st.lockMarks &&& ~~~ BitVec.twoPow 32 n.val
      faultLit := lit
      fetch := (afterWrite u).store.fetch }

/-- After the end of a write the journal is as it was, but for one OPEN record that may close (R42, R81). -/
theorem afterWrite_journal (u : State) : ∃ ref, (afterWrite u).journal = u.journal.close ref .superseded none := by
  obtain ⟨ref, closed⟩ := serveMark_journal (serveFetch u)
  refine ⟨ref, ?_⟩
  unfold afterWrite
  rw [issueWrite_frame]
  exact closed.trans (by rw [serveFetch_journal])

end Sys2Proof.Machine
end

section
/-! PROOF. The issue of the head write and its completion (R82, R83). -/

namespace Sys2Proof.Machine

/-- The head is issued when it waits, the memory is IDLE and no fetch waits, and at no other time (R82). -/
theorem canIssueWrite_iff {s : State} {e : WriteEntry} {rest : List WriteEntry} (hq : s.store.queue = e :: rest) :
    canIssueWrite s = true
      ↔ e.inFlight = false ∧ s.store.mem = .idle ∧ ∀ f, s.store.fetch = some f → f.result ≠ none := by
  have waits : fetchWaiting s = false ↔ ∀ f, s.store.fetch = some f → f.result ≠ none := by
    unfold fetchWaiting
    cases s.store.fetch with
    | none => simp
    | some f => cases hr : f.result <;> simp [hr]
  unfold canIssueWrite
  rw [hq]
  simp [waits, and_assoc]

theorem issueWrite_issued {s : State} {e : WriteEntry} {rest : List WriteEntry} (hq : s.store.queue = e :: rest)
    (h : canIssueWrite s = true) :
    issueWrite s = { s with store := { s.store with
      queue := { e with inFlight := true } :: rest
      mem := .busy
      writeTimer := some 0 } } := by
  unfold issueWrite
  rw [hq]
  exact if_pos h

theorem issueWrite_waits {s : State} (h : ¬ canIssueWrite s = true) : issueWrite s = s := by
  unfold issueWrite
  split
  · rfl
  · exact if_neg h

theorem exec_writeComplete {s : State} {e : WriteEntry} {rest : List WriteEntry} (hq : s.store.queue = e :: rest)
    (flies : e.inFlight = true) : exec .writeComplete s = .next (completeWrite e s) := by
  change execWriteComplete s = _
  unfold execWriteComplete
  rw [hq]
  exact congrArg Host.Outcome.next (if_pos flies)

/-- The state as a completed write leaves it, before what follows in the event (R83). -/
def written (e : WriteEntry) (s : State) : State :=
  closeRecord e.capture .closed none (endWrite false (storeWrite e s))

theorem completeWrite_eq (e : WriteEntry) (s : State) : completeWrite e s = afterWrite (written e s) := rfl

theorem written_store {e : WriteEntry} {s : State} {rest : List WriteEntry} (hq : s.store.queue = e :: rest) :
    (written e s).store = s.store.ended rest false := by
  show s.store.ended s.store.queue.tail false = _
  rw [hq]
  rfl

theorem completeWrite_journal (e : WriteEntry) (s : State) : ∃ ref,
    (completeWrite e s).journal = (s.journal.close e.capture .closed none).close ref .superseded none :=
  afterWrite_journal (written e s)

/-- The bytes of a completed write stand at its target (R83). -/
theorem completeWrite_memRead_at {e : WriteEntry} {s : State} {n : Nat} {b : Byte} (hm : Memory.wf s.memory = true)
    (hb : e.data[n]? = some b) : memRead (completeWrite e s).memory (targetAddress e.target + n) = b := by
  obtain ⟨hn, byte⟩ := List.getElem?_eq_some_iff.1 hb
  rw [completeWrite_memory]
  exact (memRead_memWriteRange_at _ _ _ _ hn hm).trans byte

theorem completeWrite_record {e : WriteEntry} {s : State} {p : Fin 32} {r : Record} (hc : e.capture = some p)
    (hp : s.journal.records[p] = some r) (opened : r.state = .opened) :
    (completeWrite e s).journal.records[p] = some (r.closedAs .closed none s.journal.timeTag) := by
  obtain ⟨ref, journal⟩ := completeWrite_journal e s
  rw [journal]
  exact Journal.close_notOpen ref _ _ (s.journal.close_at e.capture .closed none p r hc hp opened)
    (by simp [Record.closedAs])

/-- Settles O46: the issue by its conditions, the completion by what the end of a write leaves. -/
theorem writesAreIssuedAndComplete : Obligations.WritesAreIssuedAndComplete := by
  unfold Obligations.WritesAreIssuedAndComplete
  intro s e rest hq
  refine ⟨fun waits idle free => ?_, fun refused => ?_, fun flies => ?_⟩
  · exact congrArg Host.Outcome.next (issueWrite_issued hq ((canIssueWrite_iff hq).2 ⟨waits, idle, free⟩))
  · refine congrArg Host.Outcome.next (issueWrite_waits fun issues => ?_)
    obtain ⟨waits, idle, free⟩ := (canIssueWrite_iff hq).1 issues
    rcases refused with flies | busy | ⟨f, hf, unserved⟩
    · simp [waits] at flies
    · simp [idle] at busy
    · exact free f hf unserved
  · obtain ⟨ref, journal⟩ := completeWrite_journal e s
    obtain ⟨faultLit, noMarks, fetchKept, fetchServed, calibration, lockByte⟩ :=
      afterWrite_endOfWrite (written_store hq)
    refine ⟨_, exec_writeComplete hq flies, completeWrite_frame s e, fun n b => completeWrite_memRead_at,
      fun a outside => ?_,
      faultLit, ?_, fun p r => completeWrite_record, noMarks, fetchKept, ?_, calibration, lockByte⟩
    · rw [completeWrite_memory]
      exact memRead_memWriteRange_other _ _ _ _ outside
    · rw [journal, Journal.close_frame, Journal.close_frame s.journal]
    · refine servedFrom_storedBytes fun req waits => (fetchServed req waits).trans ?_
      rw [completeWrite_eq, afterWrite_memory]

end Sys2Proof.Machine
end

section
/-! PROOF. A store fault: the mixture left at a slot, the STORE_FAULT record and the capture's, and the end of the write
(R84–R86, R210). -/

namespace Sys2Proof.Machine

/-! ### The mixture of old and new bits (R84; log 7) -/

theorem mixture_getLsbD (old new mask : Byte) (i : Nat) :
    ((old &&& mask) ||| (new &&& ~~~ mask)).getLsbD i = old.getLsbD i
      ∨ ((old &&& mask) ||| (new &&& ~~~ mask)).getLsbD i = new.getLsbD i := by
  rw [BitVec.getLsbD_or, BitVec.getLsbD_and, BitVec.getLsbD_and, BitVec.getLsbD_not]
  by_cases hi : i < 8
  · cases mask.getLsbD i <;> simp [hi]
  · left
    rw [BitVec.getLsbD_of_ge old i (by omega), BitVec.getLsbD_of_ge new i (by omega)]
    rfl

theorem tornBytes_getLsbD {old new : List Byte} {torn n : Nat} (h : n < (tornBytes torn old new).length)
    (hold : n < old.length) (hnew : n < new.length) (i : Nat) :
    (tornBytes torn old new)[n].getLsbD i = old[n].getLsbD i
      ∨ (tornBytes torn old new)[n].getLsbD i = new[n].getLsbD i := by
  induction old generalizing torn new n with
  | nil => cases hold
  | cons o os ih =>
    cases new with
    | nil => cases hnew
    | cons w ws =>
      cases n with
      | zero => exact mixture_getLsbD o w _ i
      | succ n =>
        exact ih (torn := torn + 1) (Nat.lt_of_succ_lt_succ h) (Nat.lt_of_succ_lt_succ hold)
          (Nat.lt_of_succ_lt_succ hnew)

/-- Each bit at the target of a faulted write is as before or as the write's (R84). -/
theorem faultMemory_getLsbD {e : WriteEntry} {s : State} {n : Nat} {b : Byte} (i : Nat)
    (hm : Memory.wf s.memory = true) (hb : e.data[n]? = some b) :
    (memRead (faultMemory e s).memory (targetAddress e.target + n)).getLsbD i
        = (memRead s.memory (targetAddress e.target + n)).getLsbD i
      ∨ (memRead (faultMemory e s).memory (targetAddress e.target + n)).getLsbD i = b.getLsbD i := by
  rcases faultMemory_cases e s with ⟨-, torn⟩ | ⟨-, kept⟩
  · obtain ⟨hn, rfl⟩ := List.getElem?_eq_some_iff.1 hb
    have hold : n < (memReadRange s.memory (targetAddress e.target) e.data.length).length := by
      rwa [memReadRange_length]
    have htorn : n
        < (tornBytes s.torn (memReadRange s.memory (targetAddress e.target) e.data.length) e.data).length := by
      rw [tornBytes_length, memReadRange_length, min_self]
      exact hn
    have mixed := tornBytes_getLsbD htorn hold hn i
    rw [memReadRange_getElem, ← memRead_memWriteRange_at _ s.memory (targetAddress e.target) n htorn hm] at mixed
    rw [torn]
    exact mixed
  · rw [kept]
    exact .inl rfl

/-! ### The records (R84, R210) -/

/-- The STORE_FAULT record of a target (R84, R210). -/
def storeFaultRecord (t : Target) (s : State) : Record :=
  faultRecord .storeFault (storeFaultParam t).1 (storeFaultParam t).2.1 (storeFaultParam t).2.2.1
    (storeFaultParam t).2.2.2 s

theorem storeFaultRecord_subject (t : Target) (s : State) : (storeFaultRecord t s).subject
    = .fault .storeFault (storeFaultParam t).1 (storeFaultParam t).2.1 (storeFaultParam t).2.2.1
      (storeFaultParam t).2.2.2 := rfl

theorem storeFaultRecord_state (t : Target) (s : State) : (storeFaultRecord t s).state = .closed := rfl

theorem faultRecorded_journal {e : WriteEntry} {s : State} {rest : List WriteEntry} (hq : s.store.queue = e :: rest) :
    (faultRecorded e s).journal = (s.journal.push (storeFaultRecord e.target s)).close
      (dropRef s.journal.next e.capture) .failed (some .storeFault) := by
  have journal : (reportStoreFault e.target (faultMemory e s)).journal
      = s.journal.push (storeFaultRecord e.target s) := by
    rw [faultMemory_frame]; rfl
  have store : (reportStoreFault e.target (faultMemory e s)).store = s.store.dropRef s.journal.next :=
    faultRecorded_store e s
  unfold faultRecorded closeRecord
  dsimp only
  rw [journal, store]
  unfold Store.dropRef
  rw [hq]
  rfl

theorem faultWrite_journal {e : WriteEntry} {s : State} {rest : List WriteEntry} (hq : s.store.queue = e :: rest) :
    ∃ ref, (faultWrite e s).journal = ((s.journal.push (storeFaultRecord e.target s)).close
      (dropRef s.journal.next e.capture) .failed (some .storeFault)).close ref .superseded none := by
  obtain ⟨ref, closed⟩ := afterWrite_journal (endWrite true (faultRecorded e s))
  exact ⟨ref, by rw [faultWrite_eq, closed, ← faultRecorded_journal hq]; rfl⟩

/-- The STORE_FAULT record stands at the position that was next, closed (R84, R209). -/
theorem faultWrite_record {e : WriteEntry} {s : State} {rest : List WriteEntry} (hq : s.store.queue = e :: rest) :
    (faultWrite e s).journal.records[s.journal.next] = some (storeFaultRecord e.target s) := by
  have closed := storeFaultRecord_state e.target s
  obtain ⟨ref, journal⟩ := faultWrite_journal hq
  rw [journal]
  refine Journal.close_notOpen ref _ _ (Journal.close_notOpen _ _ _ (Journal.push_at _ _) ?_) ?_ <;> simp [closed]

/-- The record of the capture that faulted closes FAILED with the code (R84). -/
theorem faultWrite_capture {e : WriteEntry} {s : State} {rest : List WriteEntry} {p : Fin 32} {r : Record}
    (hq : s.store.queue = e :: rest) (hc : e.capture = some p) (hp : p ≠ s.journal.next)
    (hr : s.journal.records[p] = some r) (opened : r.state = .opened) :
    (faultWrite e s).journal.records[p] = some (r.closedAs .failed (some .storeFault) s.journal.timeTag) := by
  have kept : dropRef s.journal.next e.capture = some p := by
    rw [hc]
    exact if_neg fun same => hp (Option.some.inj same)
  obtain ⟨ref, journal⟩ := faultWrite_journal hq
  rw [journal]
  refine Journal.close_notOpen ref _ _ (Journal.close_at _ _ _ _ p r kept ?_ opened) (by simp [Record.closedAs])
  rw [Journal.push_other _ _ p hp, hr]

/-! ### The store at the end of the faulted write -/

/-- The entries left when the head has faulted: references to the position of the new record are dropped (R208). -/
def leftAfterFault (s : State) : List WriteEntry := (s.store.dropRef s.journal.next).queue.tail

theorem leftAfterFault_eq {e : WriteEntry} {s : State} {rest : List WriteEntry} (hq : s.store.queue = e :: rest) :
    leftAfterFault s = rest.map (fun x => { x with capture := dropRef s.journal.next x.capture }) := by
  unfold leftAfterFault Store.dropRef
  rw [hq]
  rfl

theorem newestData_map {f : WriteEntry → WriteEntry} (target : ∀ e, (f e).target = e.target)
    (data : ∀ e, (f e).data = e.data) (q : List WriteEntry) (t : Target) :
    newestData (q.map f) t = newestData q t := by
  have same : (fun e : WriteEntry => decide (e.target = t)) ∘ f = fun e => decide (e.target = t) :=
    funext fun e => by simp [target]
  have bytes : (fun e : WriteEntry => e.data) ∘ f = fun e => e.data := funext data
  unfold newestData
  rw [List.filter_map, same, List.getLast?_map, Option.map_map, bytes]

theorem storedBytes_leftAfterFault {e : WriteEntry} {s : State} {rest : List WriteEntry}
    (hq : s.store.queue = e :: rest)
    (m : Memory) (req : FetchReq) : storedBytes (leftAfterFault s) m req = storedBytes rest m req := by
  have newest (t : Target) : newestData (leftAfterFault s) t = newestData rest t := by
    rw [leftAfterFault_eq hq]
    exact newestData_map (f := fun x => { x with capture := dropRef s.journal.next x.capture }) (fun _ => rfl)
      (fun _ => rfl) rest t
  cases req <;> simp only [storedBytes, newest]

theorem faultRecorded_ended (e : WriteEntry) (s : State) :
    (endWrite true (faultRecorded e s)).store = s.store.ended (leftAfterFault s) true := by
  show (faultRecorded e s).store.ended (faultRecorded e s).store.queue.tail true = _
  rw [faultRecorded_store]
  rfl

theorem exec_storeFault {s : State} {e : WriteEntry} {rest : List WriteEntry} (hq : s.store.queue = e :: rest)
    (flies : e.inFlight = true) : exec .storeFault s = .next (faultWrite e s) := by
  change execStoreFault s = _
  unfold execStoreFault
  rw [hq]
  exact congrArg Host.Outcome.next (if_pos flies)

theorem faultWrite_ops (e : WriteEntry) (s : State) : (faultWrite e s).ops = s.ops.dropRef s.journal.next := by
  rw [faultWrite_eq, afterWrite_ops]
  show (faultMemory e s).ops.dropRef (faultMemory e s).journal.next = _
  rw [faultMemory_frame]

/-- Settles O47: the memory by the mixture, the records by the journal's rules, the rest by the end of a write. -/
theorem storeFaultLosesTheWrite : Obligations.StoreFaultLosesTheWrite := by
  unfold Obligations.StoreFaultLosesTheWrite
  intro s e rest hq flies
  have length : (leftAfterFault s).length = rest.length := by rw [leftAfterFault_eq hq, List.length_map]
  obtain ⟨faultLit, noMarks, fetchKept, fetchServed, calibration, lockByte⟩ :=
    afterWrite_endOfWrite (faultRecorded_ended e s)
  refine ⟨_, exec_storeFault hq flies, ?_, faultLit, noMarks, fetchKept, ?_, fun room => ?_, fun other => ?_,
    fun a outside => ?_, fun n i b hm hb => ?_, ?_, ?_, fun p r => faultWrite_capture hq⟩
  · rw [← faultWrite_ops e s]
    exact faultWrite_frame s e
  · refine servedFrom_storedBytes fun req waits => (fetchServed req waits).trans ?_
    rw [storedBytes_leftAfterFault hq, faultWrite_eq, afterWrite_memory]
  · exact ⟨fun cal => calibration cal (by omega), fun n cal set least => lockByte n cal set least (by omega)⟩
  · rcases faultMemory_cases e s with ⟨⟨l, k, slot⟩, -⟩ | ⟨-, kept⟩
    · exact absurd slot (other l k)
    · rw [faultWrite_memory, kept]
  · rw [faultWrite_memory]
    exact faultMemory_memRead e a outside
  · rw [faultWrite_memory]
    exact faultMemory_getLsbD i hm hb
  · rw [faultWrite_record hq, Option.map_some, storeFaultRecord_subject, storeFaultRecord_state]
    cases e.target <;> rfl
  · obtain ⟨ref, journal⟩ := faultWrite_journal hq
    rw [journal, Journal.close_frame, Journal.close_frame (s.journal.push _)]
    rfl

end Sys2Proof.Machine
end

section
/-! PROOF. The arithmetic of the crescendo shoe: the stage candidate and its bands, the held stage and the position
(R102–R104). -/

namespace Sys2Proof.Machine

/-! ### The stage candidate (R103) -/

theorem candidate_mono (S : Nat) {q r : Nat} (h : q ≤ r) : candidate S q ≤ candidate S r :=
  min_le_min le_rfl (Nat.div_le_div_right (Nat.mul_le_mul_right S h))

theorem candidate_le (S q : Nat) : candidate S q ≤ S - 1 := min_le_left _ _

/-- Below position 1000 the minimum is not needed. -/
theorem stage_below_top {S q : Nat} (hS : 0 < S) (hq : q < 1000) : q * S / 1000 ≤ S - 1 := by
  have below : q * S / 1000 < S :=
    Nat.div_lt_of_lt_mul (Nat.mul_lt_mul_of_pos_right hq hS)
  omega

/-- A position inside the band of stage j has the candidate j. -/
theorem candidate_of_band {S q j : Nat} (hj : j < S) (lower : 1000 * j ≤ q * S) (upper : q * S < 1000 * (j + 1)) :
    candidate S q = j := by
  have quotient : q * S / 1000 = j := by omega
  rw [candidate, quotient, min_eq_right (by omega)]

/-- The lower bound of the band of stage j is 1000 × j / S rounded up. -/
theorem band_lower_iff {S : Nat} (hS : 0 < S) (j q : Nat) : 1000 * j ≤ q * S ↔ (1000 * j + (S - 1)) / S ≤ q := by
  rw [Nat.div_le_iff_le_mul_add_pred hS, Nat.mul_comm S q, Nat.add_le_add_iff_right]

/-- Settles O30: each clause is a fact about the quotient q × S / 1000. -/
theorem stageCandidateBands : Obligations.StageCandidateBands := by
  unfold Obligations.StageCandidateBands
  intro S least _
  have pos : 0 < S := by omega
  refine ⟨fun q _ => rfl, fun q r h _ => candidate_mono S h, fun q => stage_below_top pos, by omega,
    fun q j _ => candidate_of_band, fun j _ => band_lower_iff pos j, fun q hq => ?_⟩
  have top := stage_below_top pos hq
  exact ⟨q * S / 1000, by omega, by omega, by omega, fun i lower upper => by omega⟩

/-! ### The held stage (R104) -/

theorem nextStage_bottom (S h held : Nat) : nextStage S h held 0 = 0 := if_pos rfl

theorem nextStage_top (S h held : Nat) : nextStage S h held 1000 = S - 1 := rfl

/-- Between the ends the held stage is raised to the candidate of p − h, lowered to that of p + h, or kept. -/
theorem nextStage_between {p : Nat} (S h held : Nat) (above : 0 < p) (below : p < 1000) :
    nextStage S h held p =
      if held < candidate S (p - h) then candidate S (p - h)
      else if candidate S (min 1000 (p + h)) < held then candidate S (min 1000 (p + h))
      else held := by
  unfold nextStage
  rw [if_neg (by omega), if_neg (by omega)]

theorem nextStage_le {S held : Nat} (h p : Nat) (_ : held < S) : nextStage S h held p ≤ S - 1 := by
  have up := candidate_le S (p - h)
  have down := candidate_le S (min 1000 (p + h))
  unfold nextStage
  dsimp only
  split_ifs <;> omega

/-! ### The position (R102) -/

/-- A part smaller than the whole is fewer than 1000 permille of it. -/
theorem permille_lt {a b : Nat} (h : a < b) : a * 1000 / b < 1000 :=
  Nat.div_lt_of_lt_mul (Nat.mul_lt_mul_of_pos_right h (by decide))

theorem position_rising {c0 c1 : Nat} (h : c0 < c1) (f : Nat) :
    position c0 c1 f = if f ≤ c0 then 0 else if c1 ≤ f then 1000 else (f - c0) * 1000 / (c1 - c0) := if_pos h

theorem position_falling {c0 c1 : Nat} (h : c1 ≤ c0) (f : Nat) :
    position c0 c1 f = if c0 ≤ f then 0 else if f ≤ c1 then 1000 else (c0 - f) * 1000 / (c0 - c1) :=
  if_neg (by omega)

theorem position_le (c0 c1 f : Nat) : position c0 c1 f ≤ 1000 := by
  rcases Nat.lt_or_ge c0 c1 with h | h
  · rw [position_rising h]
    split
    · omega
    · split
      · exact le_rfl
      · exact (permille_lt (by omega)).le
  · rw [position_falling h]
    split
    · omega
    · split
      · exact le_rfl
      · exact (permille_lt (by omega)).le

theorem calSpan_rising {c0 c1 : Fin 1024} (h : c0 < c1) : calSpan c0 c1 = c1.val - c0.val := by
  unfold calSpan; omega

theorem calSpan_falling {c0 c1 : Fin 1024} (h : c1 < c0) : calSpan c0 c1 = c0.val - c1.val := by
  unfold calSpan; omega

/-- Settles O31: the three cases of R104 between the ends, and the three of R102 for either order of the pair. -/
theorem heldStageFollowsWithHysteresis : Obligations.HeldStageFollowsWithHysteresis := by
  unfold Obligations.HeldStageFollowsWithHysteresis
  intro S h held p _ _ _ holds _
  refine ⟨fun bottom => bottom ▸ nextStage_bottom S h held, fun top => top ▸ nextStage_top S h held,
    fun above below => ?_, nextStage_le h p holds,
    fun c0 c1 f => ⟨position_le _ _ _, fun rising => ?_, fun falling => ?_⟩⟩
  · have ordered : candidate S (p - h) ≤ candidate S (min 1000 (p + h)) := candidate_mono S (by omega)
    rw [nextStage_between S h held above below]
    refine ⟨ordered, fun raised => if_pos raised, fun lowered => ?_, fun low high => ?_, fun sharp => ?_⟩
    · rw [if_neg (by omega), if_pos lowered]
    · rw [if_neg (by omega), if_neg (by omega)]
    · rw [sharp, Nat.sub_zero, Nat.add_zero, min_eq_right below.le]
      split
      · rfl
      · split <;> omega
  · rw [position_rising rising, calSpan_rising rising]
    refine ⟨fun low => if_pos low, fun high => ?_, fun low high => ?_⟩
    · exact (if_neg (by omega)).trans (if_pos high)
    · rw [if_neg (by omega), if_neg (by omega)]
      exact ⟨rfl, permille_lt (by omega)⟩
  · rw [position_falling falling.le, calSpan_falling falling]
    refine ⟨fun high => if_pos high, fun low => ?_, fun low high => ?_⟩
    · exact (if_neg (by omega)).trans (if_pos low)
    · rw [if_neg (by omega), if_neg (by omega)]
      exact ⟨rfl, permille_lt (by omega)⟩

end Sys2Proof.Machine
end

section
/-! PROOF. The STAGE sent by the origination check, the sample taken up by the stage, and the ends of timers (R96–R109,
R132, R162, R236). -/

namespace Sys2Proof.Machine

variable {s : State}

/-! ### The STAGE sent (R107–R109) -/

/-- The shoe with the held pair sent and the interval started (R107). -/
def Cresc.pairSent (x : Cresc) : Cresc := { x with lastSent := (x.program, x.stage), interval := some 0 }

/-- The pistons and the shoe have no part in where a frame goes (R149, R169). -/
theorem takenLink_shoe {f : TxFrame} {p : PistonUnit} {x : Cresc} {o : Option Link} (h : takenLink f s = o) :
    takenLink f { s with pistons := p, cresc := x } = o := (takenLink_congr f rfl rfl rfl rfl).trans h

/-- A STAGE with a place changes the shoe and the link (R107). -/
theorem sendStage_taken {l : Link} (run : s.view.mode = .run)
    (taken : takenLink (.stage s.cresc.program s.cresc.stage) s = some l) :
    sendStage s = { s with cresc := s.cresc.pairSent, link := l } :=
  handOver_taken run (takenLink_shoe taken)

/-- A STAGE without a place is lost with TX_FULL, and counts as sent (R109). -/
theorem sendStage_lost (run : s.view.mode = .run)
    (full : takenLink (.stage s.cresc.program s.cresc.stage) s = none) :
    sendStage s = reportFault .txFull (headerByte 6 s.start.station) 0 0 0 { s with cresc := s.cresc.pairSent } :=
  handOver_lost run (takenLink_shoe full)

theorem originationCheck_sends (run : s.view.mode = .run) (differs : heldPair s ≠ s.cresc.lastSent)
    (stopped : s.cresc.interval = none) : originationCheck s = sendStage s := if_pos ⟨run, differs, stopped⟩

theorem originationCheck_silent
    (h : s.view.mode ≠ .run ∨ heldPair s = s.cresc.lastSent ∨ s.cresc.interval ≠ none) :
    originationCheck s = s := by
  refine if_neg (fun sends => ?_)
  obtain ⟨run, differs, stopped⟩ := sends
  rcases h with h | h | h <;> contradiction

/-! ### The sample taken up (R97, R104) -/

theorem pushSample_short {ring : List (Fin 1024)} (short : ring.length < 3) (r : Fin 1024) :
    pushSample ring r = ring ++ [r] := if_pos (by omega)

theorem filterRing_short {ring : List (Fin 1024)} (short : ring.length < 3) (r : Fin 1024) :
    filterRing (ring ++ [r]) = none := by
  refine if_neg ?_
  rw [List.length_append, List.length_singleton]
  omega

/-- The ring holds the last four samples (R97). -/
theorem pushSample_full {ring : List (Fin 1024)} {a b c d : Fin 1024} (full : ring = [b, c, d] ∨ ring = [a, b, c, d])
    (r : Fin 1024) : pushSample ring r = [b, c, d, r] := by
  rcases full with rfl | rfl <;> rfl

/-- The filtered value is the mean of the last four samples, rounded down (R97). -/
theorem filterRing_full {b c d r f : Fin 1024} (mean : f.val = (b.val + c.val + d.val + r.val) / 4) :
    filterRing [b, c, d, r] = some f := by
  have sum : ([b, c, d, r].map (fun x => x.val)).sum = b.val + c.val + d.val + r.val := by simp [Nat.add_assoc]
  refine congrArg some (Fin.ext ?_)
  rw [Fin.val_ofNat, sum, ← mean, Nat.mod_eq_of_lt f.isLt]

/-- The held stage after a filtered value (R104, R105). -/
def stageAfter (f : Fin 1024) (s : State) : Fin 60 :=
  if s.cresc.cal = .good then
    Fin.ofNat 60 (nextStage s.params.s s.params.h s.cresc.stage.val (position s.store.c0.val s.store.c1.val f.val))
  else s.cresc.stage

theorem stageUpdate_eq (f : Fin 1024) (s : State) :
    stageUpdate f s = { s with cresc := { s.cresc with stage := stageAfter f s } } := by
  unfold stageUpdate stageAfter
  split <;> rfl

/-- The station with a ring, its filtered value and the stage that takes it up (R97, R104). -/
def sampleTaken (ring : List (Fin 1024)) (f : Fin 1024) (s : State) : State :=
  { s with cresc := { s.cresc with ring := ring, filtered := some f, stage := stageAfter f s } }

theorem takeSample_unfiltered {r : Fin 1024} {ring : List (Fin 1024)} (pushed : pushSample s.cresc.ring r = ring)
    (unfiltered : filterRing ring = none) :
    takeSample r s = { s with cresc := { s.cresc with ring := ring, filtered := none } } := by
  simp only [takeSample, pushed, unfiltered]

theorem takeSample_filtered {r f : Fin 1024} {ring : List (Fin 1024)} (pushed : pushSample s.cresc.ring r = ring)
    (filtered : filterRing ring = some f) :
    takeSample r s =
      if s.cresc.cal = .good then originationCheck (sampleTaken ring f s) else sampleTaken ring f s := by
  simp only [takeSample, pushed, filtered]
  split
  · rw [stageUpdate_eq]; rfl
  · rename_i faulted
    rw [sampleTaken, stageAfter, if_neg faulted]

theorem exec_sampleEvent (r : Fin 1024) (sampled : shoeSampled s = true) :
    exec (.sampleEvent r) s = .next (takeSample r s) := congrArg Host.Outcome.next (if_pos sampled)

/-- Settles O32: by the ring's length, the calibration, and whether the pair is to be sent. -/
theorem sampleEventUpdatesTheStage : Obligations.SampleEventUpdatesTheStage := by
  unfold Obligations.SampleEventUpdatesTheStage
  intro s r sampled
  have event := exec_sampleEvent r sampled
  refine ⟨fun short => ?_, ?_⟩
  · rw [event, takeSample_unfiltered (pushSample_short short r) (filterRing_short short r)]
  · intro a b c d f full mean taken stage sent
    have takes := takeSample_filtered (pushSample_full full r) (filterRing_full mean)
    refine ⟨fun silent => ?_, fun run good differs stopped => ?_⟩
    · by_cases good : s.cresc.cal = .good
      · have idle : s.view.mode ≠ .run ∨ (s.cresc.program, stage) = s.cresc.lastSent ∨ s.cresc.interval ≠ none := by
          rcases silent with h | h | h
          · exact .inl h
          · exact nomatch good.symm.trans h
          · exact .inr h
        rw [event, takes, if_pos good, originationCheck_silent (s := sampleTaken [b, c, d, r] f s) idle]
        rfl
      · rw [event, takes, if_neg good]
        rfl
    · have sends : exec (.sampleEvent r) s = .next (sendStage (sampleTaken [b, c, d, r] f s)) := by
        rw [event, takes, if_pos good]
        exact congrArg _ (originationCheck_sends run differs stopped)
      exact ⟨fun l place => sends.trans (congrArg _ (sendStage_taken run (takenLink_shoe place))),
        fun noPlace => ⟨_, sends.trans (congrArg _ (sendStage_lost run (takenLink_shoe noPlace))), rfl, rfl⟩⟩

/-! ### The ends of timers (R108, R132, R162, R236) -/

theorem exec_intervalTimerExpiry (runs : s.cresc.interval.isSome = true) :
    exec .intervalTimerExpiry s = .next (endInterval s) := congrArg Host.Outcome.next (if_pos runs)

theorem endInterval_sends (run : s.view.mode = .run) (differs : heldPair s ≠ s.cresc.lastSent) :
    endInterval s = sendStage s := if_pos ⟨run, differs⟩

theorem endInterval_stops (h : s.view.mode ≠ .run ∨ heldPair s = s.cresc.lastSent) :
    endInterval s = { s with cresc := { s.cresc with interval := none } } := by
  refine if_neg (fun sends => ?_)
  obtain ⟨run, differs⟩ := sends
  rcases h with h | h <;> contradiction

/-- Settles O33, timer by timer. -/
theorem timersEndOrGoOn : Obligations.TimersEndOrGoOn := by
  unfold Obligations.TimersEndOrGoOn
  intro s
  refine ⟨fun runs => ?_, fun runs => ⟨_, congrArg Host.Outcome.next (if_pos runs), rfl, rfl⟩,
    fun runs => ⟨_, congrArg Host.Outcome.next (if_pos runs), rfl, rfl⟩,
    fun lit n flashing => ?_, fun lit n flashing => ?_⟩
  · have event := exec_intervalTimerExpiry runs
    refine ⟨fun stops => event.trans (congrArg _ (endInterval_stops stops)), fun run differs => ?_⟩
    rw [endInterval_sends run differs] at event
    exact ⟨fun l place => event.trans (congrArg _ (sendStage_taken run place)),
      fun noPlace => ⟨_, event.trans (congrArg _ (sendStage_lost run noPlace)), rfl, rfl⟩⟩
  · show execFlashTimerExpiry .cresc s = _
    unfold execFlashTimerExpiry
    rw [flashing]; rfl
  · show execFlashTimerExpiry .seqEnd s = _
    unfold execFlashTimerExpiry
    rw [flashing]; rfl

end Sys2Proof.Machine
end

section
/-! PROOF. PROGRAM and CALIBRATE at a piston (R99, R100, R106, R139, R140). -/

namespace Sys2Proof.Machine

variable {s : State}

/-! ### The calibration press (R99, R100) -/

theorem writeCalibration_entered {q : List WriteEntry}
    (h : enterQueue s.store.queue .calibration (calibrationBytes s.store.c0 s.store.c1) none = some q) :
    writeCalibration s = { s with
      store := { s.store with queue := q }
      journal := s.journal.close (replacedCapture s.store.queue .calibration) .superseded none } := by
  unfold writeCalibration; rw [enterWrite_entered h]

theorem writeCalibration_deferred
    (h : enterQueue s.store.queue .calibration (calibrationBytes s.store.c0 s.store.c1) none = none) :
    writeCalibration s = { s with store := { s.store with calMark := true } } := by
  unfold writeCalibration; rw [enterWrite_refused h]

theorem acceptCalibration_entered {c f : Fin 1024} {q : List WriteEntry}
    (h : enterQueue s.store.queue .calibration (calibrationBytes c f) none = some q) :
    acceptCalibration c f s = { s with
      store := { s.store with c0 := c, c1 := f, queue := q }
      journal := s.journal.close (replacedCapture s.store.queue .calibration) .superseded none
      cresc := { s.cresc with procedure := none, cal := .good }
      flashes := { s.flashes with cresc := none } } := by
  unfold acceptCalibration; rw [writeCalibration_entered h]

theorem acceptCalibration_deferred {c f : Fin 1024}
    (h : enterQueue s.store.queue .calibration (calibrationBytes c f) none = none) :
    acceptCalibration c f s = { s with
      store := { s.store with c0 := c, c1 := f, calMark := true }
      cresc := { s.cresc with procedure := none, cal := .good }
      flashes := { s.flashes with cresc := none } } := by
  unfold acceptCalibration; rw [writeCalibration_deferred h]

theorem calibrationPress_unfiltered (unfiltered : s.cresc.filtered = none) : calibrationPress s = s := by
  unfold calibrationPress; rw [unfiltered]

theorem calibrationPress_first {f : Fin 1024} (filtered : s.cresc.filtered = some f) (idle : s.cresc.procedure = none) :
    calibrationPress s = { s with cresc := { s.cresc with procedure := some f } } := by
  unfold calibrationPress; rw [filtered, idle]

theorem calibrationPress_accepted {f c : Fin 1024} (filtered : s.cresc.filtered = some f)
    (taken : s.cresc.procedure = some c) (wide : 64 ≤ calSpan c f) : calibrationPress s = acceptCalibration c f s := by
  unfold calibrationPress; rw [filtered, taken]
  exact if_pos wide

theorem calibrationPress_rejected {f c : Fin 1024} (filtered : s.cresc.filtered = some f)
    (taken : s.cresc.procedure = some c) (narrow : calSpan c f < 64) :
    calibrationPress s = reportShoeFault c f { s with cresc := { s.cresc with procedure := none } } := by
  unfold calibrationPress; rw [filtered, taken]
  exact if_neg (Nat.not_le.2 narrow)

/-! ### The presses (R139, R140) -/

theorem pressProgram_refused {k : Fin 4} (h : s.params.shoeRole = false ∨ s.cresc.cal = .faulted) :
    pressProgram k s = s := by
  unfold pressProgram selectProgram
  rcases h with h | h <;> simp [h]

/-- PROGRAM k taken: the program, then the origination check (R106, R107). -/
theorem pressProgram_taken {k : Fin 4} (role : s.params.shoeRole = true) (good : s.cresc.cal = .good) :
    pressProgram k s = originationCheck { s with cresc := { s.cresc with program := k } } :=
  (if_pos role).trans (if_pos good)

theorem pressCalibrate_refused
    (h : s.params.shoeRole = false ∨ s.view.setter = false ∨ s.cresc.filtered = none) : pressCalibrate s = s := by
  unfold pressCalibrate
  rcases h with h | h | h
  · simp [h]
  · simp [h]
  · rw [calibrationPress_unfiltered h, ite_self]

theorem pressCalibrate_taken (role : s.params.shoeRole = true) (armed : s.view.setter = true) :
    pressCalibrate s = calibrationPress s := if_pos (by rw [role, armed]; rfl)

/-- Settles O29: PROGRAM by the origination check, CALIBRATE by the state of the procedure and the span. -/
theorem shoePistonsSelectAndCalibrate : Obligations.ShoePistonsSelectAndCalibrate := by
  unfold Obligations.ShoePistonsSelectAndCalibrate
  intro s i run sampled released pistons
  have event := exec_pistonPress_run run sampled released
  refine ⟨fun refused => event.trans ?_, fun k fn role good => ?_, fun f fn role armed filtered => ?_⟩
  · rcases refused with ⟨⟨k, fn⟩, h⟩ | ⟨fn, h⟩ <;> rw [fn]
    · exact congrArg _ (pressProgram_refused (s := setPiston i true s) h)
    · exact congrArg _ (pressCalibrate_refused (s := setPiston i true s) h)
  · rw [fn] at event
    have checks := event.trans (congrArg _ (pressProgram_taken (s := setPiston i true s) role good))
    refine ⟨fun silent => checks.trans (congrArg _ (originationCheck_silent (.inr silent))), fun differs stopped => ?_⟩
    have sends := checks.trans (congrArg _ (originationCheck_sends run differs stopped))
    exact ⟨fun l place => sends.trans (congrArg _ (sendStage_taken run (takenLink_shoe place))),
      fun noPlace => ⟨_, sends.trans (congrArg _ (sendStage_lost run (takenLink_shoe noPlace))), rfl, rfl⟩⟩
  · rw [fn] at event
    have press := event.trans (congrArg _ (pressCalibrate_taken (s := setPiston i true s) role armed))
    refine ⟨fun idle => press.trans (congrArg _ (calibrationPress_first filtered idle)),
      fun c taken wide => ?_, fun c taken narrow => ?_⟩
    · have accepts := press.trans (congrArg _ (calibrationPress_accepted filtered taken wide))
      cases entry : enterQueue s.store.queue .calibration (calibrationBytes c f) none with
      | some q =>
        refine ⟨_, accepts.trans (congrArg _ (acceptCalibration_entered entry)), rfl, rfl, rfl, fun q' same => ?_,
          fun full => nomatch full⟩
        cases same
        exact ⟨rfl, rfl⟩
      | none =>
        exact ⟨_, accepts.trans (congrArg _ (acceptCalibration_deferred entry)), rfl, rfl, rfl,
          fun q' room => (nomatch room), fun _ => ⟨rfl, rfl⟩⟩
    · exact ⟨_, press.trans (congrArg _ (calibrationPress_rejected filtered taken narrow)), rfl, rfl⟩

end Sys2Proof.Machine
end

section
/-! PROOF. What a delivery does after its effect: the greetings and the duplicate check, which every kind of frame
shares (R177, R192, R195). -/

namespace Sys2Proof.Machine

variable {s : State}

/-! ### What the greetings and the duplicate check leave -/

/-- The station t after the greetings and the duplicate check of a delivery whose effect left u. -/
structure AfterEffect (u t : State) : Prop where
  frame : t = { u with
    view := t.view
    link := t.link
    ops := t.ops
    store := { u.store with queue := t.store.queue }
    cresc := t.cresc
    pistons := { u.pistons with seqEnd := t.pistons.seqEnd }
    flashes := { u.flashes with seqEnd := t.flashes.seqEnd }
    journal := t.journal }
  list : unreferenced t.ops.list = unreferenced u.ops.list
  procedure : t.cresc.procedure = u.cresc.procedure ∨ t.cresc.procedure = none

theorem AfterEffect.refl (s : State) : AfterEffect s s := ⟨rfl, rfl, .inl rfl⟩

theorem AfterEffect.trans {u t : State} (h : AfterEffect s u) (k : AfterEffect u t) : AfterEffect s t where
  frame := by rw [k.frame, h.frame]
  list := k.list.trans h.list
  procedure := by
    rcases k.procedure with same | abandoned
    · rw [same]; exact h.procedure
    · exact .inr abandoned

/-- Dropped references leave the entries as they are otherwise (R208). -/
theorem unreferenced_dropRef (q : Sequencer) (p : Fin 32) : unreferenced (q.dropRef p).list = unreferenced q.list := by
  unfold unreferenced Sequencer.dropRef
  rw [List.map_map]; rfl

theorem AfterEffect.reportFault (k : FaultCode) (a b c d : Byte) : AfterEffect s (reportFault k a b c d s) :=
  ⟨rfl, unreferenced_dropRef _ _, .inl rfl⟩

theorem AfterEffect.handOver (f : TxFrame) : AfterEffect s (handOver f s) := by
  unfold Machine.handOver
  split
  · split
    · exact ⟨rfl, rfl, .inl rfl⟩
    · exact .reportFault _ _ _ _ _
  · exact .refl s

theorem AfterEffect.sendStage : AfterEffect s (sendStage s) :=
  .trans (u := { s with cresc := s.cresc.pairSent }) ⟨rfl, rfl, .inl rfl⟩ (.handOver _)

theorem AfterEffect.greet (isNew : Bool) : AfterEffect s (greet isNew s) := by
  unfold Machine.greet newStationActions
  split
  · have announced : AfterEffect s (Machine.handOver .announce s) := .handOver _
    have staged : AfterEffect s
        (if s.params.shoeRole then Machine.sendStage (Machine.handOver .announce s)
          else Machine.handOver .announce s) := by
      split
      · exact announced.trans .sendStage
      · exact announced
    dsimp only
    split
    · exact staged.trans (.handOver _)
    · exact staged
  · exact .refl s

theorem AfterEffect.checkDuplicate (mark : Mark) (header : Byte) : AfterEffect s (checkDuplicate mark header s) := by
  have journaled : AfterEffect s (Machine.reportFault .duplicateId 0 header 0 0 s) := .reportFault _ _ _ _ _
  unfold Machine.checkDuplicate detectDuplicate
  split
  · dsimp only
    split
    · exact journaled.trans ⟨rfl, rfl, .inr rfl⟩
    · exact journaled.trans ⟨rfl, rfl, .inl rfl⟩
    · exact .refl s
  · exact .refl s

/-! ### READY and the view -/

/-- READY stands as judged (R194). -/
def ReadyJudged (s : State) : Prop := s.params.levelRole = true → s.view.ready = rosterMeetsMask s

theorem ReadyJudged.judgeReady (s : State) : ReadyJudged (judgeReady s) := fun role => if_pos role

/-- READY is judged from the image values and the roster alone (R194). -/
theorem ReadyJudged.congr {t : State} (h : ReadyJudged s) (hp : t.params = s.params)
    (hn : t.view.roster = s.view.roster) (hr : t.view.ready = s.view.ready) : ReadyJudged t := by
  unfold ReadyJudged rosterMeetsMask at *
  rw [hp, hn, hr]
  exact h

/-- Judging READY again changes nothing. -/
theorem ReadyJudged.again (h : ReadyJudged s) :
    (if s.params.levelRole then rosterMeetsMask s else s.view.ready) = s.view.ready := by
  split
  · rename_i role
    exact (h role).symm
  · rfl

/-- The duplicate check changes what was seen of a duplicate and the mode (R195, R197). -/
theorem checkDuplicate_view (mark : Mark) (header : Byte) (h : ReadyJudged s) :
    (checkDuplicate mark header s).view = { s.view with
      duplicateSeen := (checkDuplicate mark header s).view.duplicateSeen
      mode := (checkDuplicate mark header s).view.mode } := by
  unfold checkDuplicate detectDuplicate
  split
  · dsimp only
    split
    · have ready := h.again
      exact congrArg (fun b => { s.view with duplicateSeen := true, mode := .listen, ready := b }) ready
    · rfl
    · rfl
  · rfl

/-- The duplicate check neither enters nor leaves SAFE (R195, R198). -/
theorem checkDuplicate_safe (mark : Mark) (header : Byte) (s : State) :
    (checkDuplicate mark header s).view.mode = .safe ↔ s.view.mode = .safe := by
  unfold checkDuplicate detectDuplicate
  split
  · dsimp only
    split
    case h_1 run _ => rw [run]; exact iff_of_false (fun h => nomatch h) (fun h => nomatch h)
    case h_2 => exact Iff.rfl
    case h_3 => exact Iff.rfl
  · exact Iff.rfl

/-! ### What an effect leaves (R177, steps 2 and 3) -/

/-- What every effect keeps: the roster, READY, the mode, what was seen of a duplicate, the tutti origin but for a
TUTTI, and of the shoe all but the calibration procedure (R101, R184, R186). -/
structure EffectKept (m : Msg) (s t : State) : Prop where
  roster : t.view.roster = s.view.roster
  ready : t.view.ready = s.view.ready
  mode : t.view.mode = s.view.mode
  duplicateSeen : t.view.duplicateSeen = s.view.duplicateSeen
  tuttiOrigin : (∀ on, m ≠ .tutti on) → t.view.tuttiOrigin = s.view.tuttiOrigin
  cresc : t.cresc = { s.cresc with procedure := t.cresc.procedure }

theorem EffectKept.toSequencer {m : Msg} {u : State} (h : EffectKept m s u) (mark : Mark) (header : Byte) (n : Msg) :
    EffectKept m s (toSequencer mark header n u) := by
  rw [toSequencer_frame]
  exact ⟨h.roster, h.ready, h.mode, h.duplicateSeen, h.tuttiOrigin, h.cresc⟩

theorem EffectKept.recomposeIf {m : Msg} {u : State} (h : EffectKept m s u) (changed : Bool) :
    EffectKept m s (recomposeIf changed u) := by
  rw [recomposeIf_frame]
  exact ⟨h.roster, h.ready, h.mode, h.duplicateSeen, h.tuttiOrigin, h.cresc⟩

theorem effect_kept (mark : Mark) (header : Byte) (m : Msg) (s : State) : EffectKept m s (effect mark header m s) := by
  have same : EffectKept m s s := ⟨rfl, rfl, rfl, rfl, fun _ => rfl, rfl⟩
  have place (l k : Byte) (n : Msg) : EffectKept m s
      (if k.toNat < 128 then toSequencer mark header n (setView { s.view with
        level := l.toFin, lastRecall := some (l.toFin, Fin.ofNat 128 k.toNat) } s) else s) := by
    split
    · refine EffectKept.toSequencer ?_ mark header n
      exact ⟨rfl, rfl, rfl, rfl, fun _ => rfl, rfl⟩
    · exact same
  match m with
  | .cancel scope => exact same.toSequencer mark header _
  | .recall l k => exact place l k _
  | .capture l k => exact place l k _
  | .handset on stop => exact same.toSequencer mark header _
  | .toggle a stop => exact same.toSequencer mark header _
  | .tutti on =>
    apply EffectKept.recomposeIf
    exact ⟨rfl, rfl, rfl, rfl, fun other => absurd rfl (other on), rfl⟩
  | .stage p st =>
    apply EffectKept.recomposeIf
    exact ⟨rfl, rfl, rfl, rfl, fun _ => rfl, rfl⟩
  | .setter armed =>
    show EffectKept _ s (effectSetter armed s)
    unfold effectSetter
    dsimp only
    split <;> exact ⟨rfl, rfl, rfl, rfl, fun _ => rfl, rfl⟩
  | .level l => exact ⟨rfl, rfl, rfl, rfl, fun _ => rfl, rfl⟩
  | .announce lr sr fr l => exact ⟨rfl, rfl, rfl, rfl, fun _ => rfl, rfl⟩

/-- A TUTTI sets the tutti origin (R184). -/
theorem effectTutti_origin (header : Byte) (on : Bool) (s : State) :
    (effectTutti header on s).view.tuttiOrigin = some (headerOrigin header) := by
  unfold effectTutti
  rw [recomposeIf_view]; rfl

/-! ### The delivery as a whole -/

/-- The station after the STOP and delivery of an accepted frame, in the order of R177. -/
def delivery (s : State) (mark : Mark) (f : WireFrame) (m : Msg) : State :=
  checkDuplicate mark f.header
    (greet (isNewStation s mark (headerOrigin f.header) m) (effect mark f.header m (heard s mark f m)))

theorem exec_accepted {mark : Mark} {f : WireFrame} {m : Msg} (accepted : Accepted s mark f m) :
    exec (frameCommand m.kind) s = .next (delivery s mark f m) := by
  rw [exec_frameCommand, acceptFrame_of_accepted accepted, deliver_steps]; rfl

/-- No duplicate is detected in a frame of this station or with another number (R195). -/
theorem checkDuplicate_other {mark : Mark} {header : Byte}
    (h : mark = .transmitted ∨ headerOrigin header ≠ s.start.station) : checkDuplicate mark header s = s := by
  refine if_neg (fun duplicate => ?_)
  obtain ⟨received, own⟩ := duplicate
  rcases h with h | h
  · exact nomatch received.symm.trans h
  · exact h own

/-- A frame that is no duplicate's ends with its greetings. -/
theorem delivery_other {mark : Mark} {f : WireFrame} {m : Msg}
    (h : mark = .transmitted ∨ headerOrigin f.header ≠ s.start.station) :
    delivery s mark f m =
      greet (isNewStation s mark (headerOrigin f.header) m) (effect mark f.header m (heard s mark f m)) := by
  refine checkDuplicate_other ?_
  rw [greet_frame, effect_frame]
  exact h

theorem isNewStation_iff (s : State) (mark : Mark) (origin : Station) (m : Msg) :
    isNewStation s mark origin m = true ↔
      mark = .received ∧ origin ≠ s.start.station ∧ (s.view.roster[origin] = none ∨ isFresh m = true) := by
  simp only [isNewStation, Bool.and_eq_true, Bool.or_eq_true, decide_eq_true_eq, Option.isNone_iff_eq_none, and_assoc]

/-- Without a new station, or outside RUN, nobody is greeted (R192). -/
theorem greet_silent {isNew : Bool} (h : isNew = false ∨ s.view.mode ≠ .run) : greet isNew s = s := by
  refine if_neg (fun greets => ?_)
  rw [Bool.and_eq_true, decide_eq_true_eq] at greets
  obtain ⟨new, run⟩ := greets
  rcases h with h | h
  · exact nomatch new.symm.trans h
  · exact h run

/-- A frame of a listed station, or of this station, has its effect and nothing more (R177). -/
theorem delivery_listed {mark : Mark} {f : WireFrame} {m : Msg} (listed : FromListedStation s mark f m) :
    delivery s mark f m = effect mark f.header m (heard s mark f m) := by
  have other : mark = .transmitted ∨ headerOrigin f.header ≠ s.start.station := by
    cases mark with
    | transmitted => exact .inl rfl
    | received => exact .inr (listed rfl).1
  have known : isNewStation s mark (headerOrigin f.header) m = false := by
    rw [← Bool.not_eq_true, isNewStation_iff]
    rintro ⟨received, -, new⟩
    obtain ⟨-, isListed, notFresh⟩ := listed received
    rcases new with unlisted | fresh
    · rw [unlisted] at isListed; cases isListed
    · exact nomatch notFresh.symm.trans fresh
  rw [delivery_other other, greet_silent (.inl known)]

theorem delivery_afterEffect (s : State) (mark : Mark) (f : WireFrame) (m : Msg) :
    AfterEffect (effect mark f.header m (heard s mark f m)) (delivery s mark f m) :=
  (AfterEffect.greet _).trans (.checkDuplicate _ _)

theorem effect_readyJudged (s : State) (mark : Mark) (f : WireFrame) (m : Msg) :
    ReadyJudged (effect mark f.header m (heard s mark f m)) := by
  have kept := effect_kept mark f.header m (heard s mark f m)
  have judged : ReadyJudged (heard s mark f m) := .judgeReady _
  exact judged.congr (effect_params _ _ _ _) kept.roster kept.ready

/-- After its effect a delivery changes of the view what was seen of a duplicate and the mode (R195, R197). -/
theorem delivery_view (s : State) (mark : Mark) (f : WireFrame) (m : Msg) :
    (delivery s mark f m).view = { (effect mark f.header m (heard s mark f m)).view with
      duplicateSeen := (delivery s mark f m).view.duplicateSeen
      mode := (delivery s mark f m).view.mode } := by
  have greeted := greet_view (effect mark f.header m (heard s mark f m))
    (isNewStation s mark (headerOrigin f.header) m)
  rw [← greeted]
  exact checkDuplicate_view mark f.header ((effect_readyJudged s mark f m).congr (greet_params _ _)
    (congrArg View.roster greeted) (congrArg View.ready greeted))

/-- The set to be composed is the same before and after the greetings and the duplicate check (R16, R197). -/
theorem delivery_composedSet (s : State) (mark : Mark) (f : WireFrame) (m : Msg) :
    composedSet (delivery s mark f m) = composedSet (effect mark f.header m (heard s mark f m)) := by
  have safe : (delivery s mark f m).view.mode = .safe ↔ (effect mark f.header m (heard s mark f m)).view.mode = .safe :=
    (checkDuplicate_safe _ _ _).trans (by rw [greet_view])
  have frame := (delivery_afterEffect s mark f m).frame
  have channels := congrArg State.channels frame
  have params := congrArg State.params frame
  have view := delivery_view s mark f m
  refine chanSet_congr (fun c => ?_)
  by_cases h : (effect mark f.header m (heard s mark f m)).view.mode = .safe
  · rw [speaks_safe h, speaks_safe (safe.2 h), channels]
  · rw [speaks_outsideSafe h, speaks_outsideSafe (fun hs => h (safe.1 hs)), channels, params, view]

end Sys2Proof.Machine
end

section
/-! PROOF. The frames that set fields of the view: TUTTI, STAGE, SETTER and ANNOUNCE (R101, R115, R118, R184–R188). -/

namespace Sys2Proof.Machine

variable {s : State}

/-- The relay port where a block acts on a changed field: recomposed in RUN and LISTEN (R115, R118, R198). -/
def relayAfter (changed : Bool) (x : ChanSet) (s : State) : Relay :=
  if changed && working s then s.relay.compose x else s.relay

theorem recomposeIf_eq (changed : Bool) (s : State) :
    recomposeIf changed s = { s with relay := relayAfter changed (composedSet s) s } := by
  unfold recomposeIf relayAfter
  split <;> rfl

theorem effectSetter_eq (armed : Bool) (s : State) :
    effectSetter armed s = { s with
      view := { s.view with setter := armed }
      cresc := if s.view.setter = true ∧ armed = false then { s.cresc with procedure := none } else s.cresc } := by
  unfold effectSetter
  dsimp only
  cases s.view.setter <;> cases armed <;> rfl

theorem stageOf_eq {raw : Fin 64} {stage : Fin 60} (h : stage.val = min 59 raw.val) : stageOf raw = stage := by
  refine Fin.ext ?_
  rw [stageOf, Fin.val_ofNat, ← h, Nat.mod_eq_of_lt stage.isLt]

/-- The station t after the delivery of a frame whose effect sets the view v, the relay port r and the shoe x. -/
structure ViewDelivered (s : State) (v : View) (r : Relay) (x : Cresc) (t : State) : Prop where
  frame : t = { s with
    view := t.view
    relay := t.relay
    link := t.link
    ops := t.ops
    store := { s.store with queue := t.store.queue }
    cresc := t.cresc
    pistons := { s.pistons with seqEnd := t.pistons.seqEnd }
    flashes := { s.flashes with seqEnd := t.flashes.seqEnd }
    journal := t.journal }
  list : unreferenced t.ops.list = unreferenced s.ops.list
  view : t.view = { v with duplicateSeen := t.view.duplicateSeen, mode := t.view.mode }
  relay : t.relay = r
  procedure : t.cresc.procedure = x.procedure ∨ t.cresc.procedure = none

theorem delivery_viewDelivered {mark : Mark} {f : WireFrame} {m : Msg} {v : View} {r : Relay} {x : Cresc}
    (sets : effect mark f.header m (heard s mark f m) = { heard s mark f m with view := v, relay := r, cresc := x }) :
    ViewDelivered s v r x (delivery s mark f m) := by
  obtain ⟨frame, list, procedure⟩ := delivery_afterEffect s mark f m
  have view := delivery_view s mark f m
  rw [sets] at frame list procedure view
  refine ⟨?_, list, view, congrArg State.relay frame, procedure⟩
  rw [frame]; rfl

/-- The set to be composed after such a delivery is that of the new view. -/
theorem composedSet_viewDelivered {mark : Mark} {f : WireFrame} {m : Msg} {v : View} {r : Relay} {x : Cresc}
    (sets : effect mark f.header m (heard s mark f m) = { heard s mark f m with view := v, relay := r, cresc := x }) :
    composedSet (delivery s mark f m) = composedSet (setView v (heard s mark f m)) := by
  rw [delivery_composedSet, sets]
  exact composedSet_congr rfl rfl rfl

theorem delivery_sets {mark : Mark} {f : WireFrame} {m : Msg} {e : State}
    (sets : effect mark f.header m (heard s mark f m) = e) (listed : FromListedStation s mark f m) :
    delivery s mark f m = e := (delivery_listed listed).trans sets

/-- Settles O53: each kind by the fields its effect sets, and by what the rest of a delivery leaves. -/
theorem viewFramesSetTheirFields : Obligations.ViewFramesSetTheirFields := by
  unfold Obligations.ViewFramesSetTheirFields
  intro s mark f m accepted u listed same seen
  have event := exec_accepted accepted
  refine ⟨?_, ?_, ?_, ?_⟩
  · rintro on rfl v
    have sets : effect mark f.header (.tutti on) u = { u with
        view := v
        relay := relayAfter (decide (s.view.tutti ≠ on)) (composedSet (setView v u)) s
        cresc := u.cresc } := recomposeIf_eq _ (setView v u)
    obtain ⟨frame, list, view, relay, -⟩ := delivery_viewDelivered sets
    refine ⟨_, event, ⟨frame, list⟩, view, ?_, fun h => ?_⟩
    · rw [relay, composedSet_viewDelivered sets]
      simp [relayAfter, u]
    · rw [relay]
      exact delivery_sets sets h
  · rintro p raw stage rfl capped v
    have sets : effect mark f.header (.stage p raw) u = { u with
        view := v
        relay := relayAfter (decide (s.view.program ≠ p) || decide (s.view.stage ≠ stage))
          (composedSet (setView v u)) s
        cresc := u.cresc } := by
      show effectStage p raw u = _
      unfold effectStage
      rw [stageOf_eq capped]
      exact recomposeIf_eq _ (setView v u)
    obtain ⟨frame, list, view, relay, -⟩ := delivery_viewDelivered sets
    refine ⟨_, event, ⟨frame, list⟩, view, ?_, fun h => ?_⟩
    · rw [relay, composedSet_viewDelivered sets]
      simp [relayAfter, u]
    · rw [relay]
      exact delivery_sets sets h
  · rintro armed rfl v
    have sets : effect mark f.header (.setter armed) u = { u with
        view := v
        relay := u.relay
        cresc := if s.view.setter = true ∧ armed = false then { s.cresc with procedure := none } else s.cresc } :=
      effectSetter_eq armed u
    obtain ⟨frame, list, view, relay, procedure⟩ := delivery_viewDelivered sets
    refine ⟨_, event, ⟨frame, list⟩, view, relay, fun was released => ?_, delivery_sets sets⟩
    rw [if_pos ⟨was, released⟩] at procedure
    exact procedure.elim id id
  · rintro levelRole shoeRole fresh l rfl v
    have sets : effect mark f.header (.announce levelRole shoeRole fresh l) u = { u with
        view := v
        relay := u.relay
        cresc := u.cresc } := by
      cases levelRole <;> cases fresh <;> rfl
    obtain ⟨frame, list, view, relay, -⟩ := delivery_viewDelivered sets
    exact ⟨_, event, ⟨frame, list⟩, view, relay, delivery_sets sets⟩

end Sys2Proof.Machine
end

section
/-! PROOF. The roster entry of a delivery's origin and the greetings of a new station (R190–R194). -/

namespace Sys2Proof.Machine

variable {s : State}

/-! ### The roster entry (R190, R191, R193) -/

theorem announcedRoles_none {m : Msg} (h : ∀ lr sr fr l, m ≠ .announce lr sr fr l) : announcedRoles m = none := by
  cases m with
  | announce lr sr fr l => exact absurd rfl (h lr sr fr l)
  | _ => rfl

/-- A first entry: its times are now, its roles the station's own, those announced, or none (R190, R191). -/
theorem heardEntry_new (s : State) (mark : Mark) (m : Msg) :
    heardEntry s mark m none = {
      levelRole := (firstRoles s mark m).1
      shoeRole := (firstRoles s mark m).2
      firstHeard := s.journal.timeTag
      lastHeard := s.journal.timeTag } := rfl

/-- Only a fresh ANNOUNCE renews the first-heard time (R193). -/
theorem heardEntry_firstHeard {m : Msg} (s : State) (mark : Mark) (o : RosterEntry) (h : isFresh m = false) :
    (heardEntry s mark m (some o)).firstHeard = o.firstHeard := if_neg (by simp [h])

/-- Only an ANNOUNCE changes the roles of a listed station (R191). -/
theorem heardEntry_roles {m : Msg} (s : State) (mark : Mark) (o : RosterEntry)
    (h : ∀ lr sr fr l, m ≠ .announce lr sr fr l) :
    (heardEntry s mark m (some o)).levelRole = o.levelRole ∧ (heardEntry s mark m (some o)).shoeRole = o.shoeRole := by
  unfold heardEntry
  rw [announcedRoles_none h]
  exact ⟨rfl, rfl⟩

/-- A received ANNOUNCE gives the roles, and a fresh one the first-heard time (R191, R193). -/
theorem heardEntry_announced (s : State) (old : Option RosterEntry) (lr sr fr : Bool) (l : Byte) :
    let e := heardEntry s .received (.announce lr sr fr l) old
    e.levelRole = lr ∧ e.shoeRole = sr ∧ (fr = true → e.firstHeard = s.journal.timeTag) := by
  cases old with
  | none => exact ⟨rfl, rfl, fun _ => rfl⟩
  | some o => exact ⟨rfl, rfl, fun fresh => if_pos ⟨rfl, fresh⟩⟩

theorem heardEntry_lastHeard (s : State) (mark : Mark) (m : Msg) (old : Option RosterEntry) :
    (heardEntry s mark m old).lastHeard = s.journal.timeTag := by
  cases old <;> rfl

/-- The roster after a delivery is the one with the origin's entry up to date (R190). -/
theorem delivery_roster (s : State) (mark : Mark) (f : WireFrame) (m : Msg) :
    (delivery s mark f m).view.roster = s.view.roster.set (headerOrigin f.header)
      (some (heardEntry s mark m s.view.roster[headerOrigin f.header])) := by
  rw [delivery_view]
  exact (effect_kept mark f.header m (heard s mark f m)).roster

/-- READY after a delivery is as judged from the roster it leaves (R194). -/
theorem delivery_ready (s : State) (mark : Mark) (f : WireFrame) (m : Msg) :
    (delivery s mark f m).view.ready =
      if s.params.levelRole then rosterMeetsMask (delivery s mark f m) else s.view.ready := by
  have params := congrArg State.params (delivery_afterEffect s mark f m).frame
  have effected := effect_params (heard s mark f m) mark f.header m
  have view := delivery_view s mark f m
  have judged : ReadyJudged (delivery s mark f m) :=
    (effect_readyJudged s mark f m).congr params (congrArg View.roster view :) (congrArg View.ready view :)
  split
  · rename_i role
    exact judged (by rw [params, effected]; exact role)
  · rename_i noRole
    rw [view]
    exact (effect_kept mark f.header m (heard s mark f m)).ready.trans (if_neg noRole)

/-! ### The greetings (R192) -/

/-- With the idle count at 0 no frame starts at once (R149). -/
theorem startsAtOnce_notIdle (h : s.link.idleUs = 0) : startsAtOnce s = false := by
  have short : ¬ 4 * s.params.rate.bitUs ≤ s.link.idleUs := by
    rw [h]
    cases s.params.rate <;> decide
  simp [startsAtOnce, quietForStart, short]

/-- With the idle count at 0 a frame handed over in RUN enters the queue by its class (R169). -/
theorem handOver_entered {f : TxFrame} {q : List TxFrame} (run : s.view.mode = .run) (h : s.link.idleUs = 0)
    (place : coalesce s.link.txq f = some q) : handOver f s = setLink { s.link with txq := q } s :=
  handOver_taken run (by rw [takenLink_queued f s (startsAtOnce_notIdle h), place]; rfl)

/-- The greetings of a new station where each frame has a place: the ANNOUNCE, at a shoe station the STAGE of the held
pair, at the last tutti origin the re-send (R110, R192). -/
theorem newStationActions_entered {q1 q2 q3 : List TxFrame} (run : s.view.mode = .run) (h : s.link.idleUs = 0)
    (announce : coalesce s.link.txq .announce = some q1)
    (stage : (if s.params.shoeRole then coalesce q1 (.stage s.cresc.program s.cresc.stage) else some q1) = some q2)
    (resend : (if s.view.tuttiOrigin = some s.start.station then coalesce q2 .tuttiResend else some q2) = some q3) :
    newStationActions s = { s with
      link := { s.link with txq := q3 }
      cresc := if s.params.shoeRole then s.cresc.pairSent else s.cresc } := by
  have announced : handOver .announce s = setLink { s.link with txq := q1 } s := handOver_entered run h announce
  have staged : (if s.params.shoeRole then sendStage (handOver .announce s) else handOver .announce s)
      = { s with
        link := { s.link with txq := q2 }
        cresc := if s.params.shoeRole then s.cresc.pairSent else s.cresc } := by
    rw [announced]
    split
    · rename_i role
      rw [if_pos role] at stage
      exact handOver_entered run h stage
    · rename_i noRole
      rw [if_neg noRole] at stage
      cases stage; rfl
  unfold newStationActions
  dsimp only
  rw [staged]
  split
  · rename_i own
    rw [if_pos own] at resend
    exact handOver_entered run h resend
  · rename_i other
    rw [if_neg other] at resend
    cases resend; rfl

/-- The tutti origin after a delivery's effect, at a station that is not the frame's origin, is the station only where
it was before and the frame is no TUTTI (R184, R192). -/
theorem effect_tuttiOrigin_iff {header : Byte} (notOwn : headerOrigin header ≠ s.start.station) (mark : Mark) (m : Msg)
    (u : State) : (effect mark header m u).view.tuttiOrigin = some s.start.station ↔
      u.view.tuttiOrigin = some s.start.station ∧ ∀ on, m ≠ .tutti on := by
  by_cases tutti : ∃ on, m = .tutti on
  · obtain ⟨on, rfl⟩ := tutti
    rw [show effect mark header (.tutti on) u = effectTutti header on u from rfl, effectTutti_origin]
    exact iff_of_false (fun h => notOwn (Option.some.inj h)) (fun h => h.2 on rfl)
  · have other : ∀ on, m ≠ .tutti on := fun on h => tutti ⟨on, h⟩
    rw [(effect_kept mark header m u).tuttiOrigin other]
    exact (and_iff_left other).symm

/-- The next state where a new station is greeted in RUN and every greeting has a place (R192). -/
theorem delivery_greets {mark : Mark} {f : WireFrame} {m : Msg} {q1 q2 q3 : List TxFrame}
    (new : isNewStation s mark (headerOrigin f.header) m = true) (notOwn : headerOrigin f.header ≠ s.start.station)
    (run : s.view.mode = .run) (announce : coalesce s.link.txq .announce = some q1)
    (stage : (if s.params.shoeRole then coalesce q1 (.stage s.cresc.program s.cresc.stage) else some q1) = some q2)
    (resend : (if s.view.tuttiOrigin = some s.start.station ∧ ∀ on, m ≠ .tutti on then
      coalesce q2 .tuttiResend else some q2) = some q3) :
    (delivery s mark f m).link = { (stopLink mark s).link with txq := q3 }
      ∧ (delivery s mark f m).cresc =
        { (if s.params.shoeRole then s.cresc.pairSent else s.cresc) with
          procedure := (delivery s mark f m).cresc.procedure } := by
  have kept := effect_kept mark f.header m (heard s mark f m)
  have link := effect_link (heard s mark f m) mark f.header m
  have params : (effect mark f.header m (heard s mark f m)).params = s.params := effect_params _ _ _ _
  have origin := effect_tuttiOrigin_iff notOwn mark m (heard s mark f m)
  have start : (effect mark f.header m (heard s mark f m)).start = s.start := by rw [effect_frame]; rfl
  rw [delivery_other (.inr notOwn)]
  generalize effect mark f.header m (heard s mark f m) = e at *
  obtain ⟨-, -, mode, -, -, cresc⟩ := kept
  have greets : greet (isNewStation s mark (headerOrigin f.header) m) e = newStationActions e :=
    if_pos (by rw [new, mode, Bool.true_and]; exact decide_eq_true run)
  have acts : newStationActions e = { e with
      link := { e.link with txq := q3 }
      cresc := if e.params.shoeRole then e.cresc.pairSent else e.cresc } := by
    refine newStationActions_entered (q1 := q1) (q2 := q2) (mode.trans run) ?_ ?_ ?_ ?_
    · rw [link]; rfl
    · rw [link]; exact announce
    · rw [params, cresc]; exact stage
    · rw [start]; exact (if_congr origin rfl rfl).trans resend
  rw [greets, acts, params]
  refine ⟨congrArg (fun l : Link => { l with txq := q3 }) link, ?_⟩
  by_cases role : s.params.shoeRole = true
  · rw [if_pos role, if_pos role, cresc]; rfl
  · rw [if_neg role, if_neg role, cresc]; rfl

/-- Settles O55: the roster entry by R190 to R193, the greetings by the places in the queue. -/
theorem deliveryListsAndGreets : Obligations.DeliveryListsAndGreets := by
  unfold Obligations.DeliveryListsAndGreets
  intro s mark f m accepted origin tag link isNew
  obtain ⟨-, -, mode, -, -, cresc⟩ := effect_kept mark f.header m (heard s mark f m)
  refine ⟨_, exec_accepted accepted, fun n other => ?_, ⟨heardEntry s mark m s.view.roster[origin], ?_,
    heardEntry_lastHeard .., fun unlisted => ?_, fun o listed => ?_, ?_⟩, delivery_ready s mark f m, fun notOwn => ?_,
    fun notOwn silent => ?_, fun q1 q2 q3 new run announce stage resend => ?_⟩
  · rw [delivery_roster]
    exact Vector.getElem_set_ne _ _ (fun same => other (Fin.ext same.symm))
  · rw [delivery_roster]
    exact Vector.getElem_set_self _
  · rw [unlisted, heardEntry_new]
    refine ⟨rfl, ?_, ?_⟩
    · rintro rfl
      exact ⟨rfl, rfl⟩
    · rintro rfl other
      simp [firstRoles, announcedRoles_none other]
  · rw [listed]
    exact ⟨heardEntry_firstHeard s mark o, heardEntry_roles s mark o⟩
  · rintro lr sr fr l rfl rfl
    exact heardEntry_announced s _ lr sr fr l
  · rw [delivery_other notOwn, greet_view]
    exact mode
  · have known : isNewStation s mark origin m = false
        ∨ (effect mark f.header m (heard s mark f m)).view.mode ≠ .run := by
      rw [← Bool.not_eq_true, isNewStation_iff, mode]
      exact silent
    rw [delivery_other notOwn, greet_silent known]
    exact ⟨effect_link .., (congrArg Cresc.lastSent cresc :), (congrArg Cresc.interval cresc :)⟩
  · have found := (isNewStation_iff s mark origin m).2 new
    obtain ⟨linkAfter, crescAfter⟩ := delivery_greets found new.2.1 run announce stage resend
    refine ⟨linkAfter, fun role => ?_, fun noRole => ?_⟩
    · rw [crescAfter, if_pos role]
      exact ⟨rfl, rfl⟩
    · rw [crescAfter, if_neg (by rw [noRole]; decide)]
      exact ⟨rfl, rfl⟩

end Sys2Proof.Machine
end

section
/-! PROOF. The pistons that hand over a frame, the sequencer's steps, TUTTI, the releases and the presses that are
ignored (R124–R137, R142). -/

namespace Sys2Proof.Machine

variable {s : State}

/-! ### Presses and releases (R125) -/

/-- A press of a released input acts by the station mode, on the input as pressed (R125). -/
theorem exec_pistonPress_taken {i : Fin 32} (sampled : pistonsSampled s = true)
    (released : s.pistons.inputs[i].pressed = false) :
    exec (.pistonPress i) s = .next (takePress i (setPiston i true s)) :=
  congrArg Host.Outcome.next (if_pos (by rw [sampled, released]; rfl))

/-- A release of a pressed input acts by the station mode, on the input as released (R125). -/
theorem exec_pistonRelease_taken {i : Fin 32} (sampled : pistonsSampled s = true)
    (pressed : s.pistons.inputs[i].pressed = true) :
    exec (.pistonRelease i) s = .next (takeRelease i (setPiston i false s)) :=
  congrArg Host.Outcome.next (if_pos (by rw [sampled, pressed]; rfl))

/-- In STARTING a press does nothing (R124). -/
theorem takePress_starting {i : Fin 32} (starting : s.view.mode = .starting) : takePress i s = s := by
  unfold takePress; rw [starting]

/-- In LISTEN a press is journaled (R142). -/
theorem takePress_listen {i : Fin 32} (listen : s.view.mode = .listen) :
    takePress i s = reportFault .duplicateId 1 (byteOf i.val) 0 0 s := by
  unfold takePress; rw [listen]

/-- Where a frame goes is not seen in the inputs (R149, R169). -/
theorem setPiston_takenLink (i : Fin 32) (pressed : Bool) (f : TxFrame) :
    takenLink f (setPiston i pressed s) = takenLink f s := takenLink_congr f rfl rfl rfl rfl

/-- A press in RUN whose act hands over a frame with a place changes the link (R125, R169). -/
theorem exec_pistonPress_handsOver {i : Fin 32} {f : TxFrame} {l : Link} (run : s.view.mode = .run)
    (sampled : pistonsSampled s = true) (released : s.pistons.inputs[i].pressed = false)
    (acts : pressAct s.params.pistonFns[i] (setPiston i true s) = handOver f (setPiston i true s))
    (taken : takenLink f s = some l) :
    exec (.pistonPress i) s = .next (setLink l (setPiston i true s)) := by
  rw [exec_pistonPress_run run sampled released, acts,
    handOver_taken (s := setPiston i true s) run ((setPiston_takenLink i true f).trans taken)]

/-! ### The frame of a function (R129, R133–R135, R137) -/

theorem level_below {l : Fin 256} (above : 0 < l.val) : Fin.ofNat 256 (l.val - 1) = l - 1 := by
  refine Fin.ext ?_
  rw [Fin.val_ofNat, Fin.val_sub_one_of_ne_zero (fun zero => by simp [zero] at above), Nat.mod_eq_of_lt (by omega)]

/-- The act of a function that has a frame is its hand-over (R126). -/
theorem pressAct_pistonFrame {fn : PistonFn} {f : TxFrame} (h : pistonFrame s.view fn = some f) :
    pressAct fn s = handOver f s := by
  match fn, h with
  | .recall slot, h =>
    cases h
    exact (apply_ite (fun f => handOver f s) ..).symm
  | .levelUp, h =>
    obtain ⟨below, h⟩ := Option.ite_none_right_eq_some.1 h
    cases h
    exact if_pos below
  | .levelDown, h =>
    obtain ⟨above, h⟩ := Option.ite_none_right_eq_some.1 h
    cases h
    rw [← level_below above]
    exact if_pos above
  | .set, h | .cancelAll, h | .cancelDiv _, h | .toggle _, h => cases h; rfl

/-- NONE, and LEVEL UP and DOWN at the ends of the levels, have no act (R127, R137). -/
theorem pressAct_nothing {fn : PistonFn}
    (h : fn = .nothing ∨ (fn = .levelUp ∧ s.view.level.val = 255) ∨ (fn = .levelDown ∧ s.view.level.val = 0)) :
    pressAct fn s = s := by
  rcases h with rfl | ⟨rfl, top⟩ | ⟨rfl, bottom⟩
  · rfl
  · exact if_neg (by omega)
  · exact if_neg (by omega)

/-- Settles O24: the act is the hand-over of the function's frame, and the hand-over goes by R169 and R171. -/
theorem pistonPressHandsOverItsFrame : Obligations.PistonPressHandsOverItsFrame := by
  unfold Obligations.PistonPressHandsOverItsFrame
  intro s i run sampled released pistons
  have event := exec_pistonPress_run run sampled released
  have acts {f : TxFrame} (frame : pistonFrame s.view s.params.pistonFns[i] = some f) :
      pressAct s.params.pistonFns[i] (setPiston i true s) = handOver f (setPiston i true s) :=
    pressAct_pistonFrame frame
  refine ⟨fun f l frame taken => exec_pistonPress_handsOver run sampled released (acts frame) taken,
    fun f frame full => ?_, fun silent => event.trans (congrArg _ (pressAct_nothing silent))⟩
  rw [event, acts frame, handOver_lost (s := setPiston i true s) run ((setPiston_takenLink i true f).trans full)]
  exact ⟨_, rfl, rfl, rfl⟩

/-! ### The sequencer (R130–R132) -/

theorem nextStep_recalled {v : View} {l : Fin 256} {n : Fin 128} (last : v.lastRecall = some (l, n)) (g : Nat) :
    nextStep v g =
      if n.val + 1 < g then .place l (Fin.ofNat 128 (n.val + 1))
      else if n.val + 1 = g then
        if l.val < 255 then .place (Fin.ofNat 256 (l.val + 1)) 0 else .atEnd
      else .place l 0 := by
  unfold nextStep; rw [last]

theorem prevStep_recalled {v : View} {l : Fin 256} {n : Fin 128} (last : v.lastRecall = some (l, n)) (g : Nat) :
    prevStep v g =
      if g ≤ n.val then .place l (Fin.ofNat 128 (g - 1))
      else if 0 < n.val then .place l (Fin.ofNat 128 (n.val - 1))
      else if 0 < l.val then .place (Fin.ofNat 256 (l.val - 1)) (Fin.ofNat 128 (g - 1))
      else .atEnd := by
  unfold prevStep; rw [last]

theorem ofNat_eq_of_val {k x : Nat} [NeZero k] {m : Fin k} (h : x = m.val) : Fin.ofNat k x = m := by
  rw [h, Fin.ofNat_val_eq_self]

theorem sequenceEnd_recalled {l : Fin 256} {n : Fin 128} (function : Byte) (last : s.view.lastRecall = some (l, n)) :
    sequenceEnd function s = reportFault .sequenceEnd function (byteOf l.val) (byteOf n.val) 0 { s with
      pistons := { s.pistons with seqEnd := some 0 }
      flashes := { s.flashes with seqEnd := some { lit := true, ms := 0 } } } := by
  unfold sequenceEnd; rw [last]

/-- Settles O25: the steps by the branches of R130 and R131, the press by the act on its step. -/
theorem sequencerPressTakesTheStep : Obligations.SequencerPressTakesTheStep := by
  unfold Obligations.SequencerPressTakesTheStep
  refine ⟨fun v g least _ => ⟨fun never => ?_, fun l n last => ?_⟩,
    fun s i st code run sampled released step => ?_⟩
  · unfold nextStep prevStep
    rw [never]
    exact ⟨rfl, rfl⟩
  · rw [nextStep_recalled last, prevStep_recalled last]
    refine ⟨fun m after inside => ?_, fun k above full => ?_, fun top full => ?_, fun beyond => ?_,
      fun m before inside => ?_, fun k m below final first => ?_, fun bottom first => ?_, fun m final beyond => ?_⟩
    · rw [if_pos (by omega), ofNat_eq_of_val after.symm]
    · rw [if_neg (by omega), if_pos full, if_pos (by omega), ofNat_eq_of_val above.symm]
    · rw [if_neg (by omega), if_pos full, if_neg (by omega)]
    · rw [if_neg (by omega), if_neg (by omega)]
    · rw [if_neg (by omega), if_pos (by omega), ofNat_eq_of_val (m := m) (by omega)]
    · rw [if_neg (by omega), if_neg (by omega), if_pos (by omega), ofNat_eq_of_val (m := k) (by omega),
        ofNat_eq_of_val (m := m) (by omega)]
    · rw [if_neg (by omega), if_neg (by omega), if_neg (by omega)]
    · rw [if_pos beyond, ofNat_eq_of_val (m := m) (by omega)]
  · intro pressed
    have event := exec_pistonPress_run run sampled released
    have acts : pressAct s.params.pistonFns[i] (setPiston i true s) = actStep code st (setPiston i true s) := by
      rcases step with ⟨fn, rfl, rfl⟩ | ⟨fn, rfl, rfl⟩
      · rw [fn]; rfl
      · rw [fn]; rfl
    refine ⟨fun l n link place taken => ?_, fun nowhere => ?_, fun l n ends last => ?_⟩
    · rw [place] at acts
      exact exec_pistonPress_handsOver run sampled released acts taken
    · rw [event, acts, nowhere]; rfl
    · rw [event, acts, ends]
      exact ⟨_, congrArg _ (sequenceEnd_recalled code last), rfl, rfl⟩

/-! ### TUTTI (R136) -/

theorem pressTutti_fresh (unqueued : queuedTutti s = none) :
    pressTutti s = handOver (.tutti (!tuttiBefore s)) s := by
  unfold pressTutti; rw [unqueued]

theorem pressTutti_withdrawn {v : Bool} (queued : queuedTutti s = some v) (back : tuttiBefore s = !v) :
    pressTutti s = withdrawTutti s := by
  unfold pressTutti; rw [queued]
  exact if_pos back

theorem pressTutti_inverted {v : Bool} (queued : queuedTutti s = some v) (same : tuttiBefore s = v) :
    pressTutti s = handOver (.tutti (!v)) s := by
  unfold pressTutti; rw [queued]
  exact if_neg (by rw [same]; exact (Bool.not_ne_self v).symm)

/-- Settles O26, by the three cases of R136. -/
theorem tuttiPressInvertsTheExpectedValue : Obligations.TuttiPressInvertsTheExpectedValue := by
  unfold Obligations.TuttiPressInvertsTheExpectedValue
  intro s i l run sampled released fn queue
  have acts : pressAct s.params.pistonFns[i] (setPiston i true s) = pressTutti (setPiston i true s) := by rw [fn]; rfl
  rcases queue with ⟨unqueued, taken⟩ | ⟨v, queued, back, rfl⟩ | ⟨v, queued, same, taken⟩
  · exact exec_pistonPress_handsOver run sampled released (acts.trans (pressTutti_fresh unqueued)) taken
  · rw [exec_pistonPress_run run sampled released, acts]
    exact congrArg _ (pressTutti_withdrawn queued back)
  · exact exec_pistonPress_handsOver run sampled released (acts.trans (pressTutti_inverted queued same)) taken

/-! ### Releases and ignored presses (R124, R133, R142) -/

/-- Settles O27: a release acts for SET in RUN alone, a press in STARTING not, and one in LISTEN is journaled. -/
theorem releasesAndIgnoredPresses : Obligations.ReleasesAndIgnoredPresses := by
  unfold Obligations.ReleasesAndIgnoredPresses
  intro s i sampled moved
  refine ⟨fun pressed => ?_, fun released starting => ?_, fun released listen => ?_⟩
  · rw [exec_pistonRelease_taken sampled pressed]
    refine ⟨fun l run fn taken => congrArg _ ?_, fun other => congrArg _ (if_neg ?_)⟩
    · exact (if_pos ⟨run, fn⟩).trans (handOver_taken run ((setPiston_takenLink i false _).trans taken))
    · rintro ⟨run, fn⟩
      rcases other with h | h
      · exact h run
      · exact h fn
  · exact (exec_pistonPress_taken sampled released).trans (congrArg _ (takePress_starting starting))
  · exact ⟨_, (exec_pistonPress_taken sampled released).trans (congrArg _ (takePress_listen listen)), rfl, rfl⟩

end Sys2Proof.Machine
end

section
/-! PROOF. The delivery of a duplicate's frame (R132, R172, R195, R197, R236). -/

namespace Sys2Proof.Machine

variable {s : State}

/-! ### Which records an effect brings into the journal (R26, R27, R205) -/

/-- No record of subject x comes into the journal from j to k: where one stands after, it stood before. -/
def NoneAdded (x : Subject) (j k : Journal) : Prop :=
  ∀ p : Fin 32, (k.records[p]).map (fun r => r.subject) = some x → (j.records[p]).map (fun r => r.subject) = some x

theorem NoneAdded.refl (x : Subject) (j : Journal) : NoneAdded x j j := fun _ h => h

theorem NoneAdded.push {x : Subject} {r : Record} (other : r.subject ≠ x) (j : Journal) : NoneAdded x j (j.push r) := by
  intro p h
  by_cases new : p = j.next
  · subst new
    rw [j.push_at] at h
    exact absurd (Option.some.inj h) other
  · rwa [j.push_other r p new] at h

/-- A closing keeps every record's subject (R204). -/
theorem Journal.close_subject (j : Journal) (ref : Option (Fin 32)) (st : RecState) (o : Option FaultCode)
    (p : Fin 32) :
    ((j.close ref st o).records[p]).map (fun r => r.subject) = (j.records[p]).map (fun r => r.subject) := by
  by_cases named : ref = some p
  · cases held : j.records[p] with
    | none =>
      have unchanged : j.close ref st o = j := by
        unfold Journal.close Journal.update
        rw [named]
        dsimp only
        rw [held]
      rw [unchanged, held]
    | some r =>
      by_cases opened : r.state = .opened
      · rw [j.close_at ref st o p r named held opened]; rfl
      · rw [j.close_notOpen ref st o held opened]
  · rw [j.close_other ref st o p named]

/-- Removed entries' records keep their subjects (R29). -/
theorem closeAll_subject (st : RecState) (es : List OpEntry) (s : State) (p : Fin 32) :
    ((closeAll st es s).journal.records[p]).map (fun r => r.subject)
      = (s.journal.records[p]).map (fun r => r.subject) := by
  induction es generalizing s with
  | nil => rfl
  | cons e es ih => exact (ih (closeRecord e.record st none s)).trans (s.journal.close_subject e.record st none p)

/-- An appended operation brings in the record of its own subject alone (R26, R205). -/
theorem appendOperation_noneAdded {x : Subject} {body : OpBody} (other : body.subject ≠ x) (origin : Station)
    (aff : ChanSet) (s : State) : NoneAdded x s.journal (appendOperation body origin aff s).journal := by
  have opened : NoneAdded x s.journal (openRecord body origin s).1.journal := by
    unfold openRecord
    split
    · exact .refl x _
    · exact .push other _
  intro p h
  refine opened p ?_
  rwa [appendOperation, closeAll_subject] at h

theorem OpBody.subject_ne_fault (body : OpBody) (k : FaultCode) (a b c d : Byte) :
    body.subject ≠ .fault k a b c d := by
  cases body <;> exact fun h => nomatch h

/-- Of FAULT records the Sequencer brings in OP_DROPPED alone (R27). -/
theorem considerFrame_noneAdded {k : FaultCode} (other : k ≠ .opDropped) (a b c d : Byte) (mark : Mark) (header : Byte)
    (m : Msg) (s : State) : NoneAdded (.fault k a b c d) s.journal (considerFrame mark header m s).journal := by
  unfold considerFrame
  split
  · exact .refl _ _
  · split
    · exact .refl _ _
    · split
      · exact appendOperation_noneAdded (OpBody.subject_ne_fault _ _ _ _ _ _) _ _ _
      · exact .push (fun h => other (Subject.fault.inj h).1.symm) _

theorem toSequencer_noneAdded {k : FaultCode} (other : k ≠ .opDropped) (a b c d : Byte) (mark : Mark) (header : Byte)
    (m : Msg) (s : State) : NoneAdded (.fault k a b c d) s.journal (toSequencer mark header m s).journal := by
  unfold toSequencer
  split
  · exact considerFrame_noneAdded other a b c d mark header m s
  · exact .refl _ _

/-- Of FAULT records an effect brings in OP_DROPPED alone (R27, R177). -/
theorem effect_noneAdded {k : FaultCode} (other : k ≠ .opDropped) (a b c d : Byte) (mark : Mark) (header : Byte)
    (m : Msg) (s : State) : NoneAdded (.fault k a b c d) s.journal (effect mark header m s).journal := by
  have considered (n : Msg) (u : State) (same : u.journal = s.journal) :
      NoneAdded (.fault k a b c d) s.journal (toSequencer mark header n u).journal :=
    same ▸ toSequencer_noneAdded other a b c d mark header n u
  have place (l n : Byte) (r : Msg) : NoneAdded (.fault k a b c d) s.journal
      (if n.toNat < 128 then toSequencer mark header r (setView { s.view with
        level := l.toFin, lastRecall := some (l.toFin, Fin.ofNat 128 n.toNat) } s) else s).journal := by
    split
    · exact considered r _ rfl
    · exact .refl _ _
  have unjournaled {u : State} (same : u.journal = s.journal) :
      NoneAdded (.fault k a b c d) s.journal u.journal := same ▸ .refl _ _
  match m with
  | .cancel scope => exact considered _ s rfl
  | .recall l n => exact place l n _
  | .capture l n => exact place l n _
  | .handset on stop => exact considered _ s rfl
  | .toggle act stop => exact considered _ s rfl
  | .tutti on => exact unjournaled (recomposeIf_journal _ _)
  | .stage p st => exact unjournaled (recomposeIf_journal _ _)
  | .setter armed => exact unjournaled (u := effectSetter armed s) (by rw [effectSetter_eq])
  | .level l => exact .refl _ _
  | .announce lr sr fr l => exact .refl _ _

/-! ### The duplicate check (R195, R197) -/

/-- The station with the duplicate journaled and remembered (R195). -/
def duplicateRecorded (header : Byte) (s : State) : State :=
  setView { s.view with duplicateSeen := true } (reportFault .duplicateId 0 header 0 0 s)

theorem detectDuplicate_run (header : Byte) (first : s.view.duplicateSeen = false) (run : s.view.mode = .run) :
    detectDuplicate header s = enterListen (duplicateRecorded header s) := by
  unfold detectDuplicate; rw [run, first]; rfl

theorem detectDuplicate_safe (header : Byte) (first : s.view.duplicateSeen = false) (safe : s.view.mode = .safe) :
    detectDuplicate header s = duplicateRecorded header s := by
  unfold detectDuplicate; rw [safe, first]; rfl

/-- A later duplicate, and one outside RUN and SAFE, does nothing (R195). -/
theorem detectDuplicate_ignored (header : Byte)
    (h : s.view.duplicateSeen = true ∨ s.view.mode = .listen ∨ s.view.mode = .starting) :
    detectDuplicate header s = s := by
  unfold detectDuplicate
  dsimp only
  split
  case h_1 run first => simp [run, first] at h
  case h_2 safe first => simp [safe, first] at h
  case h_3 => rfl

/-- Outside RUN the duplicate check keeps the mode and the link (R172, R195). -/
theorem detectDuplicate_outsideRun (header : Byte) (h : s.view.mode ≠ .run) :
    (detectDuplicate header s).view.mode = s.view.mode ∧ (detectDuplicate header s).link = s.link := by
  unfold detectDuplicate
  dsimp only
  split
  case h_1 run _ => exact absurd run h
  case h_2 => exact ⟨rfl, rfl⟩
  case h_3 => exact ⟨rfl, rfl⟩

/-- A received frame with the station's own number has its effect, then the duplicate check: nobody is greeted (R177,
R192, R195). -/
theorem delivery_own {f : WireFrame} {m : Msg} (own : headerOrigin f.header = s.start.station) :
    delivery s .received f m = detectDuplicate f.header (effect .received f.header m (heard s .received f m)) := by
  have known : isNewStation s .received (headerOrigin f.header) m = false := by
    rw [← Bool.not_eq_true, isNewStation_iff]
    exact fun new => new.2.1 own
  unfold delivery
  rw [greet_silent (.inl known)]
  refine if_pos ⟨rfl, ?_⟩
  rw [effect_frame]
  exact own

/-- Settles O56: the delivery is its effect and the duplicate check, by the mode and what was seen before. -/
theorem duplicateFrameEndsInListen : Obligations.DuplicateFrameEndsInListen := by
  unfold Obligations.DuplicateFrameEndsInListen
  intro s f m accepted own delivered
  have event : exec (frameCommand m.kind) s = .next (detectDuplicate f.header delivered) :=
    (exec_accepted accepted).trans (congrArg _ (delivery_own own))
  have kept : EffectKept m (heard s .received f m) delivered := effect_kept ..
  have mode : delivered.view.mode = s.view.mode := kept.mode
  have seen : delivered.view.duplicateSeen = s.view.duplicateSeen := kept.duplicateSeen
  have link : delivered.link = (stopLink .received s).link := effect_link ..
  have unjournaled (b : Byte) : NoneAdded (.fault .duplicateId 0 b 0 0) s.journal delivered.journal :=
    effect_noneAdded (by decide) 0 b 0 0 .received f.header m (heard s .received f m)
  refine ⟨_, event, fun first place => ?_, fun first run => ?_, fun notRun => ?_, fun later => ?_⟩
  · rcases place with run | safe
    · rw [detectDuplicate_run f.header (seen.trans first) (mode.trans run)]
      exact ⟨rfl, rfl⟩
    · rw [detectDuplicate_safe f.header (seen.trans first) (mode.trans safe)]
      exact ⟨rfl, rfl⟩
  · rw [detectDuplicate_run f.header (seen.trans first) (mode.trans run)]
    exact ⟨rfl, rfl, rfl, rfl, rfl, rfl, rfl⟩
  · obtain ⟨modeKept, linkKept⟩ := detectDuplicate_outsideRun (s := delivered) f.header (by rwa [mode])
    rw [modeKept, linkKept, link]
    exact ⟨mode, rfl, rfl⟩
  · have ignored : detectDuplicate f.header delivered = delivered :=
      detectDuplicate_ignored f.header (by rw [seen, mode]; exact later.imp_right .inl)
    rw [ignored]
    exact ⟨rfl, seen, mode, fun p b => unjournaled b p⟩

end Sys2Proof.Machine
end

section
/-! PROOF. The silence of a station outside RUN: what keeps it, among the shared operations and with time (R145, R147,
R172). -/

namespace Sys2Proof.Machine

variable {s : State}

/-! ### What the law of silence looks at -/

/-- The controller drives neither line, has prepared no answer and holds nothing to send (R145, R172). -/
def Link.Silent (l : Link) : Prop :=
  l.outLck = false ∧ l.outLda = false ∧ l.line ≠ .sending ∧ l.objection = false ∧ l.hold = false ∧ l.veto = false
    ∧ l.txq = [] ∧ l.hand = none

theorem silentOutsideRun_iff (s : State) :
    SilentOutsideRun s ↔
      (s.view.mode ≠ .run → s.link.Silent) ∧ (s.view.mode = .starting → s.link.line = .off) := Iff.rfl

/-- Between frames, or seeking, a controller with nothing to send is silent (R148, R152). -/
theorem Link.leaveFrame_silent {l : Link} (x : LineState) (hx : x ≠ .sending) (queue : l.txq = [])
    (hand : l.hand = none) : (l.leaveFrame x).Silent :=
  ⟨rfl, rfl, hx, rfl, rfl, rfl, queue, hand⟩

theorem Link.Silent.leaveFrame {l : Link} (h : l.Silent) {x : LineState} (hx : x ≠ .sending) :
    (l.leaveFrame x).Silent := by
  obtain ⟨-, -, -, -, -, -, queue, hand⟩ := h
  exact Link.leaveFrame_silent x hx queue hand

/-- A silent controller has no hold to withdraw (R165). -/
theorem Link.Silent.withdrawHold {l : Link} (h : l.Silent) : l.withdrawHold = l := by
  obtain ⟨-, -, -, -, hold, -⟩ := h
  exact if_neg (by simp [hold])

theorem Link.reset_silent : Link.reset.Silent := ⟨rfl, rfl, by decide, rfl, rfl, rfl, rfl, rfl⟩

/-- The mode stays, a link that is silent outside RUN stays silent, and a line that is OFF in STARTING stays OFF. -/
structure SilenceKept (s t : State) : Prop where
  mode : t.view.mode = s.view.mode
  link : s.view.mode ≠ .run → s.link.Silent → t.link.Silent
  line : s.view.mode = .starting → s.link.line = .off → t.link.line = .off

theorem SilenceKept.refl (s : State) : SilenceKept s s := ⟨rfl, fun _ h => h, fun _ h => h⟩

theorem SilenceKept.trans {s t u : State} (h : SilenceKept s t) (k : SilenceKept t u) : SilenceKept s u where
  mode := k.mode.trans h.mode
  link outside silent := k.link (h.mode ▸ outside) (h.link outside silent)
  line starting off := k.line (h.mode.trans starting) (h.line starting off)

theorem SilenceKept.ite {p : Prop} [Decidable p] {t : State} (h : p → SilenceKept s t) :
    SilenceKept s (if p then t else s) := by
  split
  · exact h ‹p›
  · exact .refl s

/-- The law of silence looks at the mode and the link alone. -/
theorem SilenceKept.sameLink {t : State} (mode : t.view.mode = s.view.mode) (link : t.link = s.link) :
    SilenceKept s t :=
  ⟨mode, fun _ h => link ▸ h, fun _ h => link ▸ h⟩

/-- What is kept for the sound keeps the mode and an OFF line; it is left to see that the link stays silent. -/
theorem SilenceKept.of_sound {t : State} (k : SoundKept s t)
    (link : s.view.mode ≠ .run → s.link.Silent → t.link.Silent) : SilenceKept s t :=
  ⟨k.mode, link, k.line⟩

/-- What leaves the link alone outside RUN. -/
theorem SilenceKept.outsideRun {t : State} (k : SoundKept s t) (link : s.view.mode ≠ .run → t.link = s.link) :
    SilenceKept s t :=
  .of_sound k (fun outside h => link outside ▸ h)

/-- A line event at a station that is not OFF. -/
theorem SilenceKept.onLine {link : Link} (hl : s.link.line ≠ .off)
    (silent : s.view.mode ≠ .run → s.link.Silent → link.Silent) : SilenceKept s (setLink link s) :=
  .of_sound (.onLine hl) silent

/-- The law of silence stands where it is kept. -/
theorem SilentOutsideRun.of_kept {t : State} (h : SilentOutsideRun s) (k : SilenceKept s t) : SilentOutsideRun t := by
  obtain ⟨silent, off⟩ := (silentOutsideRun_iff s).1 h
  refine (silentOutsideRun_iff t).2 ⟨fun outside => ?_, fun starting => ?_⟩
  · rw [k.mode] at outside
    exact k.link outside (silent outside)
  · rw [k.mode] at starting
    exact k.line starting (off starting)

/-- A station outside STARTING with a silent link. -/
theorem SilentOutsideRun.of_silent (started : s.view.mode ≠ .starting) (h : s.link.Silent) : SilentOutsideRun s :=
  (silentOutsideRun_iff s).2 ⟨fun _ => h, fun starting => absurd starting started⟩

/-- A station whose link is at its reset values (R173). -/
theorem SilentOutsideRun.of_reset (h : s.link = Link.reset) : SilentOutsideRun s :=
  (silentOutsideRun_iff s).2 ⟨fun _ => h ▸ Link.reset_silent, fun _ => h ▸ rfl⟩

/-! ### Hand-overs and operations -/

theorem SilenceKept.handOver (f : TxFrame) : SilenceKept s (handOver f s) :=
  .outsideRun (.handOver f) (fun outside => by rw [handOver_outsideRun f outside])

/-- Outside RUN no STAGE is originated (R107). -/
theorem originationCheck_outsideRun (h : s.view.mode ≠ .run) : originationCheck s = s := if_neg (fun c => h c.1)

theorem stageUpdate_link (f : Fin 1024) (s : State) : (stageUpdate f s).link = s.link := by
  unfold stageUpdate; split <;> rfl

theorem stageUpdate_view (f : Fin 1024) (s : State) : (stageUpdate f s).view = s.view := by
  unfold stageUpdate; split <;> rfl

theorem SilenceKept.takeSample (r : Fin 1024) : SilenceKept s (takeSample r s) := by
  refine .outsideRun (.takeSample r) (fun outside => ?_)
  unfold Machine.takeSample
  dsimp only
  split
  · rfl
  · split
    · rw [originationCheck_outsideRun (by rwa [stageUpdate_view]), stageUpdate_link]
    · rfl

theorem SilenceKept.endInterval : SilenceKept s (endInterval s) := by
  refine .outsideRun .endInterval (fun outside => ?_)
  rw [endInterval_stops (.inl outside)]

/-- A counted attempt needs a frame in hand, which a silent station has not (R162). -/
theorem SilenceKept.countAttempt (cause : AttemptCause) : SilenceKept s (countAttempt cause s) := by
  refine .of_sound (.countAttempt cause) (fun _ silent => ?_)
  have empty : s.link.hand = none := by
    obtain ⟨-, -, -, -, -, -, -, hand⟩ := silent
    exact hand
  unfold Machine.countAttempt
  rw [empty]
  exact silent

/-- A hold is withdrawn (R91, R165). -/
theorem SilenceKept.withdrawn {t : State} (mode : t.view.mode = s.view.mode)
    (link : t.link = s.link.withdrawHold) : SilenceKept s t where
  mode := mode
  link _ silent := by rw [link, silent.withdrawHold]; exact silent
  line _ off := by rw [link, Link.withdrawHold_line]; exact off

theorem SilenceKept.plan (e : OpEntry) (target : Chan → Bool) : SilenceKept s (plan e target s) :=
  .withdrawn (by rw [plan_view]) (plan_link e target s)

theorem SilenceKept.takeCapture (e : OpEntry) (l : Fin 256) (k : Fin 128) : SilenceKept s (takeCapture e l k s) := by
  unfold Machine.takeCapture
  split
  · rename_i u entered
    rw [enterWrite_frame entered]
    exact .withdrawn rfl rfl
  · exact .sameLink rfl rfl

theorem SilenceKept.takeUp (e : OpEntry) : SilenceKept s (takeUp e s) := by
  unfold Machine.takeUp
  split
  · exact .sameLink (by rw [askFetch_frame]) (askFetch_link ..)
  · exact .takeCapture _ _ _
  · exact .plan _ _

theorem SilenceKept.deliverFetch (req : FetchReq) (bytes : List Byte) : SilenceKept s (deliverFetch req bytes s) := by
  unfold Machine.deliverFetch recallOutcome
  split
  · split
    · exact .refl s
    · split
      · split
        · exact .plan _ _
        · exact .plan _ _
        · exact .withdrawn rfl rfl
      · exact .refl s
  · exact .sameLink rfl rfl
  · exact .sameLink rfl rfl

/-! ### Channels -/

/-- Outside RUN a hand move leaves the link alone (R7, R172). -/
theorem handMove_link (c : Chan) (on : Bool) (outside : s.view.mode ≠ .run) : (handMove c on s).link = s.link := by
  unfold handMove
  dsimp only
  rw [handOver_outsideRun]
  · split <;> simp
  · split <;> simpa using outside

/-- Outside RUN a LIT press leaves the link alone (R10, R172). -/
theorem litPress_link (c : Chan) (outside : s.view.mode ≠ .run) : (litPress c s).link = s.link := by
  unfold litPress
  rw [handOver_outsideRun _ (by simpa using outside)]
  rfl

theorem movedChange_link (c : Chan) (on : Bool) (outside : s.view.mode ≠ .run) :
    (movedChange c on s).link = s.link := by
  unfold movedChange
  dsimp only
  split
  · exact handMove_link c on outside
  · exact handMove_link c on outside
  · rfl

/-- Outside RUN a debounced change hands nothing over (R5, R172). -/
theorem debouncedChange_link (c : Chan) (on : Bool) (outside : s.view.mode ≠ .run) :
    (debouncedChange c on s).link = s.link := by
  unfold debouncedChange workingChange
  dsimp only
  split
  · rfl
  · rfl
  · split
    · rfl
    · exact movedChange_link c on outside
    · split
      · exact litPress_link c outside
      · rfl

theorem SilenceKept.debouncedChange (c : Chan) (on : Bool) : SilenceKept s (debouncedChange c on s) := by
  have view : (Machine.debouncedChange c on s).view = s.view := debouncedChange_view ..
  by_cases run : s.view.mode = .run
  · exact ⟨congrArg View.mode view, fun outside => absurd run outside,
      fun starting => nomatch run.symm.trans starting⟩
  · exact .sameLink (congrArg View.mode view) (debouncedChange_link c on run)

/-! ### Start-up -/

theorem load_link (s : State) : (load s).link = s.link := by
  unfold load
  dsimp only
  split
  · rfl
  · unfold loadImage
    rw [loadCalibration_frame, loadLocks_frame, reportClamped_frame]

theorem load_view (s : State) : (load s).view = s.view := by
  unfold load
  dsimp only
  split
  · rfl
  · unfold loadImage
    rw [loadCalibration_frame, loadLocks_frame, reportClamped_frame]

/-- Outside RUN the completion hands nothing over (R222). -/
theorem announceRun_outsideRun (h : s.view.mode ≠ .run) : announceRun s = s := if_neg h

theorem SilenceKept.announceRun : SilenceKept s (announceRun s) :=
  .outsideRun .announceRun (fun outside => by rw [announceRun_outsideRun outside])

/-- A station that completes its start seeks the link with nothing to send (R222). -/
theorem complete_silent (h : SilentOutsideRun s) (starting : s.view.mode = .starting) :
    SilentOutsideRun (complete s) := by
  obtain ⟨-, -, -, -, -, -, queue, hand⟩ := h.1 (by rw [starting]; decide)
  have entered (mode : Mode) (started : mode ≠ .starting) (flash : Option Flash) :
      SilentOutsideRun (modeEntered s mode flash) :=
    .of_silent started (Link.leaveFrame_silent .seeking (by decide) queue hand)
  rw [complete_eq]
  refine SilentOutsideRun.of_kept ?_ .announceRun
  cases safe : s.start.safe
  · rw [enterMode_run safe]; exact entered .run (by decide) _
  · rw [enterMode_safe safe]; exact entered .safe (by decide) _

/-! ### Time -/

/-- A veto is prepared in RUN alone (R89). -/
theorem vetoAtSlot_outsideRun (h : s.view.mode ≠ .run) : vetoAtSlot s = false := by
  unfold vetoAtSlot vetoDecision
  split
  · rfl
  · split <;> simp [h]

/-- Outside RUN a silent station places no bit and no answer (R151, R159, R160). -/
theorem placedLda_silent (h : s.view.mode ≠ .run) (silent : s.link.Silent) : placedLda s = false := by
  obtain ⟨-, -, line, objection, -⟩ := silent
  unfold placedLda
  split
  · contradiction
  · exact objection
  · exact vetoAtSlot_outsideRun h
  · contradiction
  · rfl

theorem lckFalls_silent (h : s.view.mode ≠ .run) (silent : s.link.Silent) : (lckFalls s).link.Silent := by
  have lda : placedLda s = false := placedLda_silent h silent
  have slot : vetoAtSlot s = false := vetoAtSlot_outsideRun h
  unfold lckFalls
  dsimp only
  split
  · exact silent
  · obtain ⟨-, -, line, objection, hold, veto, queue, hand⟩ := silent
    exact ⟨by simp [line, hold], lda, line, objection, hold, by simp [slot, veto], queue, hand⟩

theorem lckRises_silent (silent : s.link.Silent) : (lckRises s).link.Silent := by
  obtain ⟨lck, lda, kept⟩ := silent
  exact ⟨lck, by simp [lckRises, lda], kept⟩

/-- Only a transmitter clocks the line (R150). -/
theorem countHalf_silent (silent : s.link.Silent) : countHalf s = s := by
  obtain ⟨-, -, line, -⟩ := silent
  exact if_neg line

theorem frameUs_silent (h : s.view.mode ≠ .run) (silent : s.link.Silent) : (frameUs s).link.Silent := by
  have counted : (countHalf s).link.Silent := by rwa [countHalf_silent silent]
  unfold frameUs
  split
  · exact lckFalls_silent h silent
  · split
    · exact lckRises_silent silent
    · split
      · unfold startEdge
        split
        · exact counted
        · exact silent
      · split
        · unfold stopEdge
          split <;> exact silent
        · exact counted

theorem idleUs_silent (silent : s.link.Silent) : (idleUs s).link.Silent := by
  unfold idleUs
  split
  · exact silent
  · split
    · exact silent
    · split <;> exact silent

theorem seekingUs_silent (silent : s.link.Silent) : (seekingUs s).link.Silent := by
  unfold seekingUs
  split
  · exact silent
  · split <;> exact silent

/-- Outside RUN a µs of the link drives nothing (R145). -/
theorem SilenceKept.linkUs : SilenceKept s (linkUs s) := by
  refine .of_sound .linkUs (fun outside silent => ?_)
  unfold Machine.linkUs
  split
  · exact silent
  · exact seekingUs_silent silent
  · exact idleUs_silent silent
  · exact frameUs_silent outside silent
  · exact frameUs_silent outside silent

theorem SilenceKept.usStep : SilenceKept s (usStep s) := by
  have relay (u : State) : (relayUs u).link = u.link := by unfold relayUs; split <;> rfl
  have reply (u : State) : (replyUs u).link = u.link := by unfold replyUs; split <;> rfl
  exact (SilenceKept.linkUs.trans (.outsideRun .relayUs fun _ => relay _)).trans (.outsideRun .replyUs fun _ => reply _)

/-- The samplers leave the link alone (R3, R62, R96, R123). -/
theorem samplersTick_link (s : State) : (samplersTick s).link = s.link := by
  have supply (u : State) : (supplyTick u).link = u.link := by unfold supplyTick; split <;> rfl
  have contacts : (if sampling s then contactsTick (supplyTick s) else s).link = s.link := by
    split
    · exact supply s
    · rfl
  have pistons (u : State) : (if pistonsSampled s then pistonsTick u else u).link = u.link := by split <;> rfl
  have shoe (u : State) : (if shoeSampled s then shoeTick u else u).link = u.link := by
    unfold shoeTick
    split
    · split <;> rfl
    · rfl
  exact ((shoe _).trans (pistons _)).trans contacts

theorem SilenceKept.stallTick : SilenceKept s (stallTick s) := by
  refine .of_sound .stallTick (fun _ silent => ?_)
  unfold Machine.stallTick
  split <;> exact silent

/-- The link's timers count, and nothing else of the link changes at a tick (R162, R164, R165, R167). -/
theorem SilenceKept.msTick : SilenceKept s (msTick s) := by
  have timers (u : State) : SilenceKept u (timersTick u) := ⟨rfl, fun _ silent => silent, fun _ off => off⟩
  have stored (u : State) : (storeTick u).link = u.link := by unfold storeTick; split <;> rfl
  have counted (u : State) : SilenceKept u (drivesTick u) := .sameLink rfl rfl
  have sampled (u : State) : SilenceKept u (samplersTick u) := .outsideRun .samplersTick fun _ => samplersTick_link u
  have polled (u : State) : SilenceKept u (storeTick u) := .outsideRun .storeTick fun _ => stored u
  have started (u : State) : SilenceKept u (startTick u) := .sameLink rfl rfl
  have stamped : SilenceKept s { s with journal := { s.journal with timeTag := s.journal.timeTag + 1 } } :=
    .sameLink rfl rfl
  exact stamped.trans (timers _) |>.trans .stallTick |>.trans (sampled _) |>.trans (counted _) |>.trans (polled _)
    |>.trans (started _)

theorem SilenceKept.idle : SilenceKept s (idle s) := by
  unfold Machine.idle
  split
  · exact .sameLink rfl rfl
  · unfold clockStep
    dsimp only
    split
    · refine .trans ?_ .usStep
      exact .sameLink rfl rfl
    · refine .trans ?_ .msTick
      exact .sameLink rfl rfl

end Sys2Proof.Machine
end

section
/-! PROOF. The commands one by one keep a station outside RUN silent; O7 (R145, R172). -/

namespace Sys2Proof.Machine

variable {s : State}

/-! ### Deliveries -/

/-- At STOP the lines are released, and a silent station stays silent (R161). -/
theorem SilenceKept.stopLink {mark : Mark} (hl : s.link.line ≠ .off) : SilenceKept s (stopLink mark s) :=
  .onLine hl (fun _ silent => by
    obtain ⟨-, -, -, -, -, -, queue, hand⟩ := silent
    refine ⟨rfl, rfl, (nomatch ·), rfl, rfl, rfl, queue, ?_⟩
    simp [hand])

theorem SilenceKept.effect (mark : Mark) (header : Byte) (m : Msg) : SilenceKept s (effect mark header m s) :=
  .sameLink (effect_kept mark header m s).mode (effect_link s mark header m)

theorem SilenceKept.greet (isNew : Bool) : SilenceKept s (greet isNew s) :=
  .outsideRun (.greet isNew) (fun outside => by rw [greet_silent (.inr outside)])

/-- A station that enters LISTEN between frames withdraws all it had to send (R197). -/
theorem enterListen_silent {l : Link} {x : LineState} (hx : x ≠ .sending) {hand : Option Hand}
    (h : s.link = { l.leaveFrame x with hand := hand }) : SilentOutsideRun (enterListen s) := by
  refine .of_silent (fun starting => nomatch starting) ?_
  show Link.Silent { s.link with txq := [], hand := none }
  rw [h]
  exact ⟨rfl, rfl, hx, rfl, rfl, rfl, rfl, rfl⟩

/-- The duplicate check of a station between frames keeps it silent outside RUN (R195, R197). -/
theorem detectDuplicate_silent (h : SilentOutsideRun s) (header : Byte) {l : Link} {hand : Option Hand}
    (stopped : s.link = { l.leaveFrame .idle with hand := hand }) : SilentOutsideRun (detectDuplicate header s) := by
  unfold detectDuplicate
  dsimp only
  split
  · exact enterListen_silent (x := .idle) (by decide) stopped
  · exact h.of_kept (.sameLink rfl rfl)
  · exact h

/-- What is accepted as a frame of some kind is a frame on the link, delivered as its message (R161, R177). -/
theorem acceptedFrame_accepted {kind : Nat} {mark : Mark} {header : Byte} {m : Msg}
    (h : acceptedFrame kind s = some (mark, header, m)) : ∃ f, Accepted s mark f m ∧ header = f.header := by
  unfold acceptedFrame at h
  split at h
  · rename_i f mark' whole marked
    split at h
    · rename_i m' msg
      split at h
      · rename_i good
        cases h
        obtain ⟨-, check, objection, veto⟩ := good
        refine ⟨f, ⟨whole, msg, objection, veto, ?_⟩, rfl⟩
        unfold stopMark at marked
        split at marked <;> cases marked
        · rename_i line; exact .inr ⟨rfl, line⟩
        · rename_i line; exact .inl ⟨rfl, line, check.resolve_left (by decide)⟩
      · cases h
    · cases h
  · cases h

/-- A delivery keeps a station outside RUN silent; a duplicate's frame, at which nobody is greeted, may end RUN (R177,
R192, R195). -/
theorem delivery_silent (h : SilentOutsideRun s) {mark : Mark} {f : WireFrame} {m : Msg}
    (hl : s.link.line ≠ .off) : SilentOutsideRun (delivery s mark f m) := by
  have heard : SilenceKept s (heard s mark f m) := .trans (.stopLink hl) (.sameLink rfl rfl)
  have effected : SilentOutsideRun (effect mark f.header m (Machine.heard s mark f m)) :=
    h.of_kept (heard.trans (.effect mark f.header m))
  by_cases duplicate : mark = .received ∧ headerOrigin f.header = s.start.station
  · obtain ⟨rfl, own⟩ := duplicate
    rw [delivery_own own]
    exact detectDuplicate_silent effected f.header (effect_link ..)
  · rw [delivery_other ?_]
    · exact effected.of_kept (.greet _)
    · cases mark with
      | transmitted => exact .inl rfl
      | received => exact .inr fun own => duplicate ⟨rfl, own⟩

theorem acceptFrame_silent (h : SilentOutsideRun s) (kind : Nat) : SilentOutsideRun (acceptFrame kind s) := by
  unfold acceptFrame
  split
  · rename_i accepted
    obtain ⟨f, -, rfl⟩ := acceptedFrame_accepted accepted
    exact delivery_silent (f := f) h (acceptedFrame_line accepted)
  · exact h

/-! ### Service commands -/

/-- Every service command but RESTART leaves the link alone. -/
theorem takeCommand_link {c : ServiceCmd} (hc : c ≠ .restart) (s : State) : (takeCommand c s).link = s.link := by
  have refused {t : State} (h : t.link = s.link) : (unlessStarting s t).link = s.link := by
    unfold unlessStarting
    split
    · rfl
    · exact h
  have answered {o : Option State} (h : ∀ u, o = some u → u = { s with store := u.store, journal := u.journal }) :
      (answerWrite o s).link = s.link := by
    unfold answerWrite
    split
    · rename_i u; rw [h u rfl]; rfl
    · rfl
  cases c with
  | ident => rfl
  | status g => rfl
  | channels => exact refused rfl
  | journal k => rfl
  | slotRead l k => exact refused (takeRead_link ..)
  | slotWrite l k data => exact refused (answered fun _ h => enterWrite_frame h)
  | imageRead off len => exact refused (takeRead_link ..)
  | imageWrite off data => exact refused (answered fun _ h => enterImage_frame h)
  | lock l st => exact refused (takeLock_link ..)
  | restart => exact absurd rfl hc

theorem takeCommand_silent (h : SilentOutsideRun s) (c : ServiceCmd) : SilentOutsideRun (takeCommand c s) := by
  by_cases hc : c = .restart
  · subst hc
    show SilentOutsideRun (unlessStarting s (takeRestart s))
    unfold unlessStarting takeRestart
    split
    · exact h.of_kept (.sameLink rfl rfl)
    · split
      · exact .of_reset rfl
      · exact h.of_kept (.sameLink rfl rfl)
  · exact h.of_kept (.outsideRun (.takeCommand hc) fun _ => takeCommand_link hc s)

theorem endCommand_silent (h : SilentOutsideRun s) (spoilt : Bool) (bytes : List Byte) :
    SilentOutsideRun (endCommand spoilt bytes s) := by
  have port : SilenceKept s { s with port := { s.port with assembly := [], bad := false, overlong := false } } :=
    .sameLink rfl rfl
  unfold endCommand
  dsimp only
  split
  · exact takeCommand_silent (h.of_kept port) _
  · exact h.of_kept (port.trans (.sameLink rfl rfl))

theorem exec_service_silent {t : State} (h : SilentOutsideRun s) (c : Instr) {body : List Byte}
    (hc : exec c s = serviceCommand body s) (e : exec c s = .next t) : SilentOutsideRun t := by
  rw [hc] at e
  cases e
  split
  · exact endCommand_silent h false _
  · exact h

/-! ### Pistons -/

theorem execPistonPress_silenceKept {t : State} (i : Fin 32) (e : execPistonPress i s = .next t) :
    SilenceKept s t := by
  refine .outsideRun (execPistonPress_kept i e) (fun outside => ?_)
  cases e
  split
  · unfold takePress
    split
    · contradiction
    · rfl
    · rfl
  · rfl

theorem execPistonRelease_silenceKept {t : State} (i : Fin 32) (e : execPistonRelease i s = .next t) :
    SilenceKept s t := by
  refine .outsideRun (execPistonRelease_kept i e) (fun outside => ?_)
  cases e
  split
  · unfold takeRelease
    rw [if_neg (fun h => outside h.1)]; rfl
  · rfl

/-! ### Line events -/

/-- A START is driven in RUN alone (R153). -/
theorem execFrameStart_silenceKept {t : State} (e : execFrameStart s = .next t) : SilenceKept s t := by
  refine .outsideRun (execFrameStart_kept e) (fun outside => ?_)
  cases e
  rw [if_neg (by simp [canStartFrame, outside])]

/-- Outside RUN no answer is prepared for a frame (R159, R160, R165). -/
theorem frameWhole_silent (h : s.view.mode ≠ .run) (silent : s.link.Silent) (f : WireFrame) (mark : Mark)
    (ok : Bool) : (frameWhole f mark ok s).link.Silent := by
  obtain ⟨lck, lda, line, -, -, -, queue, hand⟩ := silent
  have hold : answers ok f (holdDecision s mark) = false := by
    rw [← Bool.not_eq_true, answers_iff]
    rintro ⟨-, m, -, held⟩
    exact h ((holdDecision_iff s mark m).1 held).1
  have veto : answers ok f (vetoDecision s) = false := by
    rw [← Bool.not_eq_true, answers_iff]
    rintro ⟨-, m, -, vetoed⟩
    exact h ((vetoDecision_iff s m).1 vetoed).1
  rw [frameWhole_eq]
  exact ⟨lck, lda, line, by simp [h], hold, veto, queue, hand⟩

theorem execFrameReceived_silenceKept {t : State} (f : WireFrame) (e : execFrameReceived f s = .next t) :
    SilenceKept s t := by
  refine .of_sound (execFrameReceived_kept f e) (fun outside silent => ?_)
  cases e
  split
  · split
    · split
      · exact frameWhole_silent outside silent _ _ _
      · exact silent
    · exact frameWhole_silent outside silent _ _ _
    · exact silent
  · exact silent

/-- A silent station is no transmitter: it passes to IDLE or SEEKING with nothing counted (R161, R162). -/
theorem execFrameNotAccepted_silenceKept {t : State} (cause : StopCause)
    (e : execFrameNotAccepted cause s = .next t) : SilenceKept s t := by
  refine .of_sound (execFrameNotAccepted_kept cause e) (fun _ silent => ?_)
  have receiver : s.link.line ≠ .sending := by
    obtain ⟨-, -, line, -⟩ := silent
    exact line
  have idle : (s.link.leaveFrame .idle).Silent := silent.leaveFrame (by decide)
  cases e
  split
  · exact silent
  · split
    · unfold endObjected
      rw [if_neg receiver]; exact idle
    · split
      · unfold endVetoed
        rw [if_neg receiver]; exact idle
      · exact silent

theorem execStopWithoutDelivery_silenceKept {t : State} (e : execStopWithoutDelivery s = .next t) :
    SilenceKept s t := by
  refine .of_sound (execStopWithoutDelivery_kept e) (fun _ silent => ?_)
  cases e
  split
  · exact silent
  · split
    · exact silent.leaveFrame (by decide)
    · exact silent

theorem SilenceKept.leaveFrame {x : LineState} (hx : x ≠ .sending) (hl : s.link.line ≠ .off) :
    SilenceKept s (setLink (s.link.leaveFrame x) s) :=
  .onLine hl (fun _ silent => silent.leaveFrame hx)

theorem execBrokenFrame_silenceKept {t : State} (e : execBrokenFrame s = .next t) : SilenceKept s t := by
  cases e
  split
  case h_1 line => exact .leaveFrame (by decide) (by rw [line]; decide)
  case h_2 line => exact .trans (.leaveFrame (by decide) (by rw [line]; decide)) (.countAttempt _)
  case h_3 => exact .refl s

theorem execLinkStall_silenceKept {t : State} (header : Option Byte) (e : execLinkStall header s = .next t) :
    SilenceKept s t := by
  cases e
  split
  · exact .refl s
  · rename_i on
    have seeking : SilenceKept s
        (setLink { s.link.leaveFrame .seeking with stall := 0, stalled := true } s) :=
      .onLine (fun off => on (.inl off)) (fun _ silent => silent.leaveFrame (x := .seeking) (by decide))
    have reported (line : LineState) (h : Option Byte) (u : State) : SilenceKept u (reportStall line h u) :=
      .sameLink rfl rfl
    exact (seeking.trans (.ite fun _ => .countAttempt .stall)).trans (reported _ _ _)

/-! ### The commands -/

theorem execTakeUpHead_silenceKept {t : State} (e : execTakeUpHead s = .next t) : SilenceKept s t := by
  cases e
  split
  · exact .refl s
  · exact .ite fun _ => .takeUp _

theorem execStoringCaptureRetake_silenceKept {t : State} (e : execStoringCaptureRetake s = .next t) :
    SilenceKept s t := by
  cases e
  split
  · exact .refl s
  · split
    · exact .takeCapture _ _ _
    · exact .refl s

theorem execFetchResult_silenceKept {t : State} (e : execFetchResult s = .next t) : SilenceKept s t := by
  cases e
  split
  · exact .refl s
  · split
    · exact .refl s
    · have free : SilenceKept s { s with store := { s.store with fetch := none } } := .sameLink rfl rfl
      have issued (u : State) : SilenceKept u (issueWaitingRecall u) :=
        .sameLink (by rw [issueWaitingRecall_frame]) (issueWaitingRecall_link u)
      exact (free.trans (.deliverFetch _ _)).trans (issued _)

theorem holdMoves_link (s : State) : (holdMoves s).link = s.link := by unfold holdMoves; rfl

theorem execSupplyLoss_silenceKept {t : State} (e : execSupplyLoss s = .next t) : SilenceKept s t := by
  refine .outsideRun (execSupplyLoss_kept e) (fun _ => ?_)
  cases e
  split
  · rw [reportFault_link, setSupply_link, holdMoves_link]
  · rfl

/-- Every command keeps a station outside RUN silent. -/
theorem exec_silentOutsideRun {t : State} (h : SilentOutsideRun s) (c : Instr) (e : exec c s = .next t) :
    SilentOutsideRun t := by
  cases c with
  | coldReset => cases e; exact .of_reset rfl
  | loadEvent =>
    cases e
    exact h.of_kept (.ite fun _ => .sameLink (congrArg View.mode (load_view s)) (load_link s))
  | startUpCompletion =>
    cases e
    split
    · rename_i ready; exact complete_silent h ready.1
    · exact h
  | debouncedChange c on => cases e; exact h.of_kept (.ite fun _ => .debouncedChange c on)
  | shiftEnd => cases e; exact h.of_kept (.sameLink rfl rfl)
  | pistonPress i => exact h.of_kept (execPistonPress_silenceKept i e)
  | pistonRelease i => exact h.of_kept (execPistonRelease_silenceKept i e)
  | sequenceEndTimerExpiry => cases e; exact h.of_kept (.ite fun _ => .sameLink rfl rfl)
  | sampleEvent r => cases e; exact h.of_kept (.ite fun _ => .takeSample r)
  | intervalTimerExpiry => cases e; exact h.of_kept (.ite fun _ => .endInterval)
  | supplyFirstSample high =>
    cases e
    refine h.of_kept (.ite fun _ => ?_)
    split <;> exact .sameLink rfl rfl
  | supplyLoss => exact h.of_kept (execSupplyLoss_silenceKept e)
  | supplyWaitStart => cases e; exact h.of_kept (.ite fun _ => .sameLink rfl rfl)
  | supplyWaitAbandon => cases e; exact h.of_kept (.ite fun _ => .sameLink rfl rfl)
  | restore => cases e; exact h.of_kept (.ite fun _ => .outsideRun .restoreSupply fun _ => restoreSupply_link s)
  | pulseStart =>
    refine h.of_kept (.outsideRun (execPulseStart_kept e) fun _ => ?_)
    cases e
    split
    · rfl
    · split <;> rfl
  | pulseEnd c =>
    refine h.of_kept (.outsideRun (execPulseEnd_kept c e) fun _ => ?_)
    cases e
    split <;> rfl
  | verify c =>
    cases e
    split
    · exact h.of_kept (.sameLink (by rw [verifyMove_frame]) (verifyMove_link ..))
    · exact h
  | takeUpHead => exact h.of_kept (execTakeUpHead_silenceKept e)
  | storingCaptureRetake => exact h.of_kept (execStoringCaptureRetake_silenceKept e)
  | fetchServe => cases e; exact h.of_kept (.ite fun _ => .sameLink (by rw [serveFetch_frame]) (serveFetch_link s))
  | fetchResult => exact h.of_kept (execFetchResult_silenceKept e)
  | writeIssue => cases e; exact h.of_kept (.sameLink (by rw [issueWrite_frame]) (by rw [issueWrite_frame]))
  | writeComplete =>
    refine h.of_kept (.outsideRun (execWriteComplete_kept e) fun _ => ?_)
    cases e
    split
    · rfl
    · split
      · exact completeWrite_link ..
      · rfl
  | storeFault =>
    refine h.of_kept (.outsideRun (execStoreFault_kept e) fun _ => ?_)
    cases e
    split
    · rfl
    · split
      · exact faultWrite_link ..
      · rfl
  | synchronise =>
    cases e
    exact h.of_kept (.ite fun line => .onLine (by rw [line]; decide)
      fun _ silent => silent.leaveFrame (x := .idle) (by decide))
  | disturbance => cases e; exact h.of_kept (.ite fun line => .leaveFrame (by decide) (by rw [line]; decide))
  | frameStart => exact h.of_kept (execFrameStart_silenceKept e)
  | frameReceived f => exact h.of_kept (execFrameReceived_silenceKept f e)
  | stretchExpiry => cases e; exact h.of_kept (.ite fun _ => .withdrawn rfl rfl)
  | frameNotAccepted cause => exact h.of_kept (execFrameNotAccepted_silenceKept cause e)
  | linkFaultTimerExpiry => cases e; exact h.of_kept (.ite fun _ => ⟨rfl, fun _ silent => silent, fun _ off => off⟩)
  | brokenFrame => exact h.of_kept (execBrokenFrame_silenceKept e)
  | linkStall header => exact h.of_kept (execLinkStall_silenceKept header e)
  | cancelFrame => cases e; exact acceptFrame_silent h 0
  | recallFrame => cases e; exact acceptFrame_silent h 1
  | captureFrame => cases e; exact acceptFrame_silent h 2
  | handsetFrame => cases e; exact acceptFrame_silent h 3
  | toggleFrame => cases e; exact acceptFrame_silent h 4
  | tuttiFrame => cases e; exact acceptFrame_silent h 5
  | stageFrame => cases e; exact acceptFrame_silent h 6
  | setterFrame => cases e; exact acceptFrame_silent h 7
  | levelFrame => cases e; exact acceptFrame_silent h 8
  | announceFrame => cases e; exact acceptFrame_silent h 9
  | serviceByteArrival b framed => cases e; exact h.of_kept (.sameLink rfl rfl)
  | gapTimerExpiry =>
    cases e
    split
    · exact endCommand_silent h _ _
    · exact h.of_kept (.sameLink rfl rfl)
    · exact h
  | ident => exact exec_service_silent h .ident rfl e
  | status group => exact exec_service_silent h (.status group) rfl e
  | channels => exact exec_service_silent h .channels rfl e
  | journal k => exact exec_service_silent h (.journal k) rfl e
  | slotRead level slot => exact exec_service_silent h (.slotRead level slot) rfl e
  | slotWrite level slot data => exact exec_service_silent h (.slotWrite level slot data) rfl e
  | imageRead offset length => exact exec_service_silent h (.imageRead offset length) rfl e
  | imageWrite offset data => exact exec_service_silent h (.imageWrite offset data) rfl e
  | serviceLock level state => exact exec_service_silent h (.serviceLock level state) rfl e
  | restart => exact exec_service_silent h .restart rfl e
  | replyEnd => cases e; exact h.of_kept (.ite fun _ => .sameLink rfl rfl)
  | flashTimerExpiry f =>
    cases e
    split <;> exact h.of_kept (.sameLink rfl rfl)
  | startReceiving =>
    cases e
    exact h.of_kept (.ite fun line => .onLine (by rw [line]; decide)
      fun _ silent => silent.leaveFrame (x := .receiving) (by decide))
  | arbitrationLost =>
    cases e
    exact h.of_kept (.ite fun sends => .onLine (by rw [sends.1]; decide)
      fun _ ⟨_, _, line, _⟩ => absurd sends.1 line)
  | stopWithoutDelivery => exact h.of_kept (execStopWithoutDelivery_silenceKept e)

/-- Settles O7: a step runs the front command, or the station goes on by itself, and either keeps a station outside
RUN silent. -/
theorem stepKeepsSilenceOutsideRun : Obligations.StepKeepsSilenceOutsideRun := by
  unfold Obligations.StepKeepsSilenceOutsideRun
  intro s t h e
  unfold step at e
  split at e
  · have queued (rest : List Instr) : SilentOutsideRun { s with pending := rest } := h
    exact exec_silentOutsideRun (queued _) _ e
  · cases e; exact h.of_kept .idle

end Sys2Proof.Machine
end

section
/-! PROOF. The frame and its bits: what is sent is taken as sent, and its bits assemble to it (R154, R156, R158,
R178). -/

namespace Sys2Proof.Machine

/-! ### Header and payload -/

/-- A number below 256 stands in its byte. -/
theorem byteOf_toNat {n : Nat} (h : n < 256) : (byteOf n).toNat = n := by
  rw [byteOf, BitVec.toNat_ofNat]
  exact Nat.mod_eq_of_lt h

theorem byteOf_toNat_mod (n : Nat) : (byteOf n).toNat = n % 256 := BitVec.toNat_ofNat n 8

theorem headerByte_toNat {kind : Nat} (hk : kind < 16) (origin : Station) :
    (headerByte kind origin).toNat = kind * 16 + origin.val := by
  rw [headerByte, byteOf_toNat]
  omega

theorem headerKind_headerByte {kind : Nat} (hk : kind < 16) (origin : Station) :
    headerKind (headerByte kind origin) = kind := by
  rw [headerKind, headerByte_toNat hk]
  omega

theorem headerOrigin_headerByte {kind : Nat} (hk : kind < 16) (origin : Station) :
    headerOrigin (headerByte kind origin) = origin := by
  rw [headerOrigin, headerByte_toNat hk]
  exact Fin.ext (by rw [Fin.val_ofNat]; omega)

theorem Msg.kind_lt (m : Msg) : m.kind < 10 := by
  unfold Msg.kind
  split <;> decide

theorem Msg.payload_length (m : Msg) : m.payload.length = payloadLength m.kind := by
  cases m <;> rfl

/-- Two payload bytes whose high one ends in bits 9–8 of a stop number, with other bits above them, give it back
(R178). -/
theorem stopOf_bytes (stop : Fin 1024) {above : Nat} (h : above % 4 = 0) :
    stopOf (byteOf (above + stopHigh stop)) (byteOf stop.val) = stop := by
  unfold stopOf stopHigh
  rw [byteOf_toNat_mod, byteOf_toNat_mod]
  exact Fin.ext (by rw [Fin.val_ofNat]; omega)

theorem boolByte_ne_zero (b : Bool) : decide (boolByte b ≠ 0) = b := by
  cases b <;> decide

/-- The flags of an ANNOUNCE stand in bits 0 to 2 of its first byte (R178). -/
theorem announceFlags : ∀ levelRole shoeRole fresh : Bool,
    let flags := byteOf ((if levelRole then 1 else 0) + (if shoeRole then 2 else 0) + (if fresh then 4 else 0))
    flags.getLsbD 0 = levelRole ∧ flags.getLsbD 1 = shoeRole ∧ flags.getLsbD 2 = fresh := by decide

/-- A receiver takes a payload as the message it was made of (R178). -/
theorem parseMsg_payload (m : Msg) : parseMsg m.kind m.payload = some m := by
  match m with
  | .cancel scope => rfl
  | .recall level slot => rfl
  | .capture level slot => rfl
  | .handset on stop =>
    have state : decide (128 ≤ (byteOf ((if on then 128 else 0) + stopHigh stop)).toNat) = on := by
      rw [byteOf_toNat_mod, stopHigh]
      cases on
      · exact decide_eq_false (by rw [if_neg (by decide)]; omega)
      · exact decide_eq_true (by rw [if_pos rfl]; omega)
    have number : stopOf (byteOf ((if on then 128 else 0) + stopHigh stop)) (byteOf stop.val) = stop :=
      stopOf_bytes stop (by split <;> rfl)
    show some (Msg.handset _ _) = _
    rw [state, number]
  | .toggle action stop =>
    have code : Fin.ofNat 4 ((byteOf (action.val * 64 + stopHigh stop)).toNat / 64) = action := by
      rw [byteOf_toNat_mod, stopHigh]
      exact Fin.ext (by rw [Fin.val_ofNat]; omega)
    have number : stopOf (byteOf (action.val * 64 + stopHigh stop)) (byteOf stop.val) = stop :=
      stopOf_bytes stop (by omega)
    show some (Msg.toggle _ _) = _
    rw [code, number]
  | .tutti on =>
    show some (Msg.tutti _) = _
    rw [boolByte_ne_zero]
  | .stage program stage =>
    have byte : (byteOf (program.val * 64 + stage.val)).toNat = program.val * 64 + stage.val := byteOf_toNat (by omega)
    have high : Fin.ofNat 4 ((program.val * 64 + stage.val) / 64) = program :=
      Fin.ext (by rw [Fin.val_ofNat]; omega)
    have low : Fin.ofNat 64 (program.val * 64 + stage.val) = stage := Fin.ext (by rw [Fin.val_ofNat]; omega)
    show some (Msg.stage _ _) = _
    rw [byte, high, low]
  | .setter armed =>
    show some (Msg.setter _) = _
    rw [boolByte_ne_zero]
  | .level level => rfl
  | .announce levelRole shoeRole fresh viewLevel =>
    obtain ⟨level, shoe, isFresh⟩ := announceFlags levelRole shoeRole fresh
    show some (Msg.announce _ _ _ _) = _
    rw [level, shoe, isFresh]

/-! ### The bits of a frame -/

/-- The bytes of a frame in the order they are sent (R154). -/
def frameBytes (f : WireFrame) : List Byte := f.header :: (f.payload ++ [f.check])

theorem byteBits_length (b : Byte) : (byteBits b).length = 8 := rfl

/-- A frame's bits are those of its bytes (R154). -/
theorem frameBits_eq (f : WireFrame) : frameBits f = (frameBytes f).flatMap byteBits := by
  simp [frameBits, frameBytes]

theorem flatMap_byteBits_length (bs : List Byte) : (bs.flatMap byteBits).length = 8 * bs.length := by
  induction bs with
  | nil => rfl
  | cons b bs ih => rw [List.flatMap_cons, List.length_append, ih, byteBits_length, List.length_cons]; omega

/-- A bit shifted in becomes bit 0, and the others move up. -/
theorem shiftIn_getLsbD (acc : Byte) (x : Bool) {i : Nat} (hi : i < 8) :
    ((acc <<< 1) ||| (if x then 1 else 0)).getLsbD i = if i = 0 then x else acc.getLsbD (i - 1) := by
  rw [BitVec.getLsbD_or, BitVec.getLsbD_shiftLeft]
  cases i with
  | zero => cases x <;> rfl
  | succ i => cases x <;> simp [hi]

/-- Bit i of a byte is the i-th from the end of the bits shifted in (R154). -/
theorem bitsByte_getLsbD (bs : List Bool) {i : Nat} (h : i < bs.length) (hi : i < 8) :
    (bitsByte bs).getLsbD i = bs.getD (bs.length - 1 - i) false := by
  induction bs using List.reverseRecOn generalizing i with
  | nil => contradiction
  | append_singleton bs x ih =>
    have last : bitsByte (bs ++ [x]) = (bitsByte bs <<< 1) ||| (if x then 1 else 0) := List.foldl_concat ..
    rw [last, shiftIn_getLsbD _ _ hi]
    rw [List.length_append, List.length_singleton] at h ⊢
    cases i with
    | zero => simp
    | succ i =>
      have place : bs.length + 1 - 1 - (i + 1) = bs.length - 1 - i := by omega
      rw [if_neg (Nat.succ_ne_zero i), Nat.add_sub_cancel, ih (by omega) (by omega), place,
        List.getD_append _ _ _ _ (by omega)]

/-- Eight bits, most significant first, give their byte back (R154). -/
theorem bitsByte_byteBits (b : Byte) : bitsByte (byteBits b) = b := by
  refine BitVec.eq_of_getLsbD_eq fun i hi => ?_
  have place : 7 - (7 - i) = i := by omega
  rw [bitsByte_getLsbD _ (by rwa [byteBits_length]) hi, byteBits_length]
  simp only [byteBits]
  rw [List.getD_eq_getElem _ _ (by simp; omega), List.getElem_map, List.getElem_range, place]

/-- Byte n of the bits of some bytes is the n-th of them (R154). -/
theorem sampledByte_flatMap {bs : List Byte} {n : Nat} (h : n < bs.length) :
    sampledByte (bs.flatMap byteBits) n = bs[n] := by
  have eight : ((bs.flatMap byteBits).drop (8 * n)).take 8 = byteBits bs[n] := by
    induction bs generalizing n with
    | nil => contradiction
    | cons b bs ih =>
      cases n with
      | zero => exact List.take_left' rfl
      | succ n =>
        have later : ((b :: bs).flatMap byteBits).drop (8 * (n + 1)) = (bs.flatMap byteBits).drop (8 * n) := by
          rw [List.flatMap_cons, Nat.mul_succ, Nat.add_comm, ← List.drop_drop, List.drop_left' (byteBits_length b)]
        rw [later]
        exact ih (Nat.lt_of_succ_lt_succ h)
  rw [sampledByte, eight, bitsByte_byteBits]

/-- The bytes of a whole frame are its header, its kind's payload and its check (R154). -/
theorem frameBytes_length {f : WireFrame} (whole : frameWholeLength f = true) :
    (frameBytes f).length = payloadLength (headerKind f.header) + 2 := by
  have payload : f.payload.length = payloadLength (headerKind f.header) := of_decide_eq_true whole
  simp [frameBytes, payload]

theorem frameBits_length {f : WireFrame} (whole : frameWholeLength f = true) :
    (frameBits f).length = 16 + 8 * payloadLength (headerKind f.header) := by
  rw [frameBits_eq, flatMap_byteBits_length, frameBytes_length whole]
  omega

/-- The header is known from the eighth bit on (R154, R158). -/
theorem sampledByte_take {bits : List Bool} {n : Nat} (h : 8 ≤ n) :
    sampledByte (bits.take n) 0 = sampledByte bits 0 := by
  unfold sampledByte
  rw [Nat.mul_zero, List.drop_zero, List.drop_zero, List.take_take, Nat.min_eq_left h]

theorem sampledByte_header (f : WireFrame) : sampledByte (frameBits f) 0 = f.header := by
  rw [frameBits_eq, sampledByte_flatMap (Nat.zero_lt_succ _)]
  rfl

/-- The bits of a whole frame assemble to it (R158). -/
theorem sampledFrame_frameBits {f : WireFrame} (whole : frameWholeLength f = true) :
    sampledFrame (frameBits f) = f := by
  have length : f.payload.length = payloadLength (headerKind f.header) := of_decide_eq_true whole
  have bytes {n : Nat} (h : n < (frameBytes f).length) : sampledByte (frameBits f) n = (frameBytes f)[n] := by
    rw [frameBits_eq, sampledByte_flatMap h]
  have payload : (List.range f.payload.length).map (fun i => sampledByte (frameBits f) (i + 1)) = f.payload := by
    refine List.ext_getElem (by simp) (fun i _ hi => ?_)
    rw [List.getElem_map, List.getElem_range, bytes (by simp [frameBytes]; omega)]
    simp [frameBytes, hi]
  have check : sampledByte (frameBits f) (f.payload.length + 1) = f.check := by
    rw [bytes (by simp [frameBytes])]
    simp [frameBytes]
  unfold sampledFrame
  simp only [sampledByte_header, ← length, payload, check]

/-- The bits sampled before the last check bit are in the body of the frame (R158). -/
theorem placeOf_frameBits_take {f : WireFrame} (whole : frameWholeLength f = true) {n : Nat}
    (h : n < (frameBits f).length) : placeOf ((frameBits f).take n) = .body := by
  have taken : ((frameBits f).take n).length = n := List.length_take_of_le h.le
  unfold placeOf frameLength
  rw [taken]
  by_cases short : n < 8
  · rw [if_pos short]
  · rw [if_neg short, sampledByte_take (Nat.le_of_not_lt short), sampledByte_header, ← frameBits_length whole]
    exact if_pos h

/-- Settles O12: the message by its kind, the bits by the bytes they are of. -/
theorem frameRoundTrip : Obligations.FrameRoundTrip := by
  unfold Obligations.FrameRoundTrip
  refine ⟨fun m origin => ?_, fun f whole => ⟨sampledFrame_frameBits whole, ?_, fun n h => ?_⟩⟩
  · have kind : headerKind (headerByte m.kind origin) = m.kind :=
      headerKind_headerByte (m.kind_lt.trans (by decide)) origin
    refine ⟨?_, kind, headerOrigin_headerByte (m.kind_lt.trans (by decide)) origin, decide_eq_true rfl, ?_⟩
    · show parseMsg (headerKind (headerByte m.kind origin)) m.payload = some m
      rw [kind, parseMsg_payload]
    · refine decide_eq_true ?_
      show m.payload.length = payloadLength (headerKind (headerByte m.kind origin))
      rw [kind, m.payload_length]
  · rw [frameLength, sampledByte_header, frameBits_length whole, if_neg (by omega)]
  · exact placeOf_frameBits_take whole h

end Sys2Proof.Machine
end

section
/-! PROOF. The events of the line: the line state they leave, and where a frame handed over goes (R148, R149, R152, R153,
R155, R161, R164, R165, R167, R169–R172). -/

namespace Sys2Proof.Machine

variable {s : State}

/-! ### Line states -/

theorem canStartFrame_iff (s : State) :
    canStartFrame s = true ↔
      s.view.mode = .run ∧ s.link.line = .idle ∧ (s.link.hand.isSome = true ∨ s.link.txq ≠ []) := by
  simp [canStartFrame, and_assoc]

/-- The frame in hand is started again (R153, R163). -/
theorem exec_frameStart_inHand {h : Hand} (run : s.view.mode = .run) (idle : s.link.line = .idle)
    (inHand : s.link.hand = some h) : exec .frameStart s = .next (driveStart h s.link.txq s) := by
  have start : canStartFrame s = true := (canStartFrame_iff s).2 ⟨run, idle, .inl (by rw [inHand]; rfl)⟩
  show execFrameStart s = _
  unfold execFrameStart
  rw [if_pos start, inHand]

/-- The head of the queue is taken into hand and started (R153). -/
theorem exec_frameStart_queued {f : TxFrame} {q : List TxFrame} (run : s.view.mode = .run)
    (idle : s.link.line = .idle) (empty : s.link.hand = none) (queued : s.link.txq = f :: q) :
    exec .frameStart s = .next (driveStart { frame := f, payload := [], attempts := 0 } q s) := by
  have start : canStartFrame s = true := (canStartFrame_iff s).2 ⟨run, idle, .inr (by rw [queued]; simp)⟩
  show execFrameStart s = _
  unfold execFrameStart
  rw [if_pos start, empty, queued]

/-- Settles O48: each event acts under its condition on the line. -/
theorem lineEventsMoveTheLineState : Obligations.LineEventsMoveTheLineState := by
  unfold Obligations.LineEventsMoveTheLineState
  intro s
  refine ⟨fun x => rfl, fun seeking => ?_, fun idle => ?_, fun idle => ?_, fun h q run idle frame => ?_,
    fun sending unfinished => ?_, fun f receiving whole unobjected bad => ?_, fun receiving => ?_,
    fun stretched held => ?_⟩
  · exact congrArg Host.Outcome.next (if_pos seeking)
  · exact congrArg Host.Outcome.next (if_pos idle)
  · exact congrArg Host.Outcome.next (if_pos idle)
  · rcases frame with ⟨inHand, rfl⟩ | ⟨empty, queued, fresh⟩
    · exact exec_frameStart_inHand run idle inHand
    · rw [exec_frameStart_queued run idle empty queued]
      obtain ⟨frame, payload, attempts⟩ := h
      cases fresh
      rfl
  · exact congrArg Host.Outcome.next (if_pos ⟨sending, unfinished⟩)
  · have discarded : undelivered s f = true := by
      simpa [undelivered, receiving, unobjected] using bad
    show execStopWithoutDelivery s = _
    unfold execStopWithoutDelivery
    rw [whole]
    exact congrArg Host.Outcome.next (if_pos discarded)
  · show execBrokenFrame s = _
    unfold execBrokenFrame
    rw [receiving]
    rfl
  · have withdrawn : s.link.withdrawHold = { s.link with hold := false, stretch := none, outLck := false } :=
      if_pos held
    show execStretchExpiry s = _
    unfold execStretchExpiry
    rw [if_pos stretched, withdrawn]
    rfl

/-! ### Hand-overs -/

theorem startsAtOnce_iff (s : State) :
    startsAtOnce s = true ↔
      s.link.line = .idle ∧ 4 * s.params.rate.bitUs ≤ s.link.idleUs ∧ s.link.outLck = false ∧ s.pins.lckLow = false
        ∧ s.link.outLda = false ∧ s.pins.ldaLow = false ∧ s.link.hand = none ∧ s.link.txq = [] := by
  simp [startsAtOnce, quietForStart, lckHigh, ldaHigh, and_assoc]

/-- On a quiet line with nothing to send, a frame handed over is started (R149). -/
theorem takenLink_started (f : TxFrame) (h : startsAtOnce s = true) :
    takenLink f s = some (startedLink { frame := f, payload := [], attempts := 0 } [] s) := if_pos h

theorem any_sameClass {q : List TxFrame} {f : TxFrame} :
    q.any (sameClass f) = true ↔ ∃ e ∈ q, e.cls = f.cls := by
  simp [List.any_eq_true, sameClass]

/-- What stays of the queue is what is of another class (R169). -/
theorem filter_sameClass (q : List TxFrame) (f : TxFrame) :
    q.filter (fun e => !sameClass f e) = q.filter (fun e => decide (e.cls ≠ f.cls)) := by
  simp [sameClass]

/-- A frame without an entry of its class is appended while there is a place (R169, R171). -/
theorem coalesce_fresh {q : List TxFrame} {f : TxFrame} (h : ∀ e ∈ q, e.cls ≠ f.cls) :
    coalesce q f = if q.length < 16 then some (q ++ [f]) else none := by
  refine if_neg fun present => ?_
  obtain ⟨e, queued, same⟩ := any_sameClass.1 present
  exact h e queued same

theorem coalesce_resend {q : List TxFrame} (h : ∃ e ∈ q, e.cls = TxFrame.tuttiResend.cls) :
    coalesce q .tuttiResend = some q := by
  unfold coalesce
  rw [if_pos (any_sameClass.2 h), if_pos rfl]

theorem any_flip {q : List TxFrame} {f : TxFrame} :
    q.any (fun e => sameClass f e && e.isFlip) = true ↔ ∃ e ∈ q, e.cls = f.cls ∧ e.isFlip = true := by
  simp [List.any_eq_true, sameClass]

/-- Two flips of a stop cancel each other (R170). -/
theorem coalesce_flip {q : List TxFrame} {f : TxFrame} (flip : f.isFlip = true)
    (h : ∃ e ∈ q, e.cls = f.cls ∧ e.isFlip = true) :
    coalesce q f = some (q.filter (fun e => decide (e.cls ≠ f.cls))) := by
  have same : ∃ e ∈ q, e.cls = f.cls := by
    obtain ⟨e, queued, same, -⟩ := h
    exact ⟨e, queued, same⟩
  have other : f ≠ .tuttiResend := by rintro rfl; cases flip
  unfold coalesce
  rw [if_pos (any_sameClass.2 same), if_neg other, flip, Bool.true_and, if_pos (any_flip.2 h), filter_sameClass]

/-- Any other frame takes the place of the entry of its class (R169). -/
theorem coalesce_replaces {q : List TxFrame} {f : TxFrame} (h : ∃ e ∈ q, e.cls = f.cls) (other : f ≠ .tuttiResend)
    (unflipped : f.isFlip = true → ∀ e ∈ q, e.cls = f.cls → e.isFlip = false) :
    coalesce q f = some (q.filter (fun e => decide (e.cls ≠ f.cls)) ++ [f]) := by
  have uncancelled : ¬(f.isFlip && q.any (fun e => sameClass f e && e.isFlip)) = true := fun both => by
    obtain ⟨flip, present⟩ := Bool.and_eq_true_iff.1 both
    obtain ⟨e, queued, same, flipped⟩ := any_flip.1 present
    exact nomatch flipped.symm.trans (unflipped flip e queued same)
  unfold coalesce
  rw [if_pos (any_sameClass.2 h), if_neg other, if_neg uncancelled, filter_sameClass]

/-- Settles O23: the queue by the frame's class, the start by the quiet of the line, the hand-over by mode and place. -/
theorem handOverFollowsTheClass : Obligations.HandOverFollowsTheClass := by
  unfold Obligations.HandOverFollowsTheClass
  refine ⟨fun q f => ⟨coalesce_fresh, fun same => ⟨?_, coalesce_flip, coalesce_replaces same⟩⟩,
    fun s f => ⟨fun quiet => ?_, fun busy => ?_⟩,
    fun s f => ⟨handOver_outsideRun f, fun l run taken => handOver_taken run taken, fun run lost => ?_⟩⟩
  · rintro rfl
    exact coalesce_resend same
  · exact takenLink_started f ((startsAtOnce_iff s).2 quiet)
  · refine takenLink_queued f s ?_
    rw [← Bool.not_eq_true, startsAtOnce_iff]
    exact busy
  · rw [handOver_lost run lost]
    exact ⟨rfl, rfl⟩

end Sys2Proof.Machine
end

section
/-! PROOF. Failed attempts, vetoes and stalls (R162–R164, R167, R210). -/

namespace Sys2Proof.Machine

variable {s : State}

/-! ### A counted attempt -/

/-- Below the third attempt the frame stays in hand (R162). -/
theorem countAttempt_below {h : Hand} (cause : AttemptCause) (inHand : s.link.hand = some h) (below : h.attempts < 2) :
    countAttempt cause s = setLink { s.link with hand := some { h with attempts := h.attempts + 1 } } s := by
  have more : h.attempts + 1 < Config.maxAttempts := Nat.succ_lt_succ below
  unfold countAttempt
  rw [inHand]
  exact if_pos more

/-- At the third attempt the frame is dropped (R162). -/
theorem countAttempt_third {h : Hand} (cause : AttemptCause) (inHand : s.link.hand = some h) (third : 2 ≤ h.attempts) :
    countAttempt cause s =
      reportFault .linkFault (headerByte h.frame.kind s.start.station) (byteOf cause.value) 0 0
        (setLink { s.link with hand := none, linkFault := some 0 } s) := by
  have last : ¬h.attempts + 1 < Config.maxAttempts := Nat.not_lt.2 (Nat.succ_le_succ third)
  unfold countAttempt
  rw [inHand]
  exact if_neg last

/-- A transmitter's objected STOP and its broken frame are counted attempts, on a link that has left the frame (R161,
R162, R164). -/
theorem exec_failedAttempt {cmd : Instr} {cause : Byte} {x : LineState} (sends : s.link.line = .sending)
    (h : cmd = .frameNotAccepted .objected ∧ s.link.assembly.isSome = true ∧ cause = 0 ∧ x = .idle
      ∨ cmd = .brokenFrame ∧ cause = 1 ∧ x = .seeking) :
    ∃ why : AttemptCause, byteOf why.value = cause
      ∧ exec cmd s = .next (countAttempt why (setLink (s.link.leaveFrame x) s)) := by
  rcases h with ⟨rfl, whole, rfl, rfl⟩ | ⟨rfl, rfl, rfl⟩
  · obtain ⟨f, assembled⟩ := Option.isSome_iff_exists.1 whole
    refine ⟨.objection, rfl, ?_⟩
    show execFrameNotAccepted .objected s = _
    unfold execFrameNotAccepted frameAtStop endObjected
    simp only [sends, assembled, if_true]
  · refine ⟨.broken, rfl, ?_⟩
    show execBrokenFrame s = _
    unfold execBrokenFrame
    simp only [sends]

/-! ### Frames not accepted -/

/-- A vetoed CAPTURE at its transmitter (R161, R162). -/
theorem exec_vetoed_sending {f : WireFrame} (assembled : s.link.assembly = some f)
    (capture : headerKind f.header = 2) (unobjected : s.link.objection = false) (sends : s.link.line = .sending) :
    exec (.frameNotAccepted .vetoed) s = .next
      (reportFault .captureVetoed (f.payload.getD 0 0) (f.payload.getD 1 0) 0 0
        (setLink { s.link.leaveFrame .idle with hand := none } s)) := by
  show execFrameNotAccepted .vetoed s = _
  unfold execFrameNotAccepted frameAtStop endVetoed
  simp only [sends, assembled, capture, unobjected, and_self, if_true]

/-- A receiver passes to IDLE at the STOP of an objected or vetoed frame (R161). -/
theorem exec_notAccepted_receiving {f : WireFrame} {cause : StopCause} (assembled : s.link.assembly = some f)
    (receives : s.link.line = .receiving)
    (h : cause = .objected ∨ headerKind f.header = 2 ∧ s.link.objection = false) :
    exec (.frameNotAccepted cause) s = .next (setLink (s.link.leaveFrame .idle) s) := by
  have receiver : s.link.line ≠ .sending := by rw [receives]; decide
  have atStop : frameAtStop s = some f := by rw [frameAtStop, receives]; exact assembled
  show execFrameNotAccepted cause s = _
  unfold execFrameNotAccepted
  rw [atStop]
  cases cause with
  | objected => exact congrArg _ (if_neg receiver)
  | vetoed =>
    have vetoable : headerKind f.header = 2 ∧ s.link.objection = false := h.resolve_left (by decide)
    exact congrArg _ ((if_pos vetoable).trans (if_neg receiver))

/-! ### Stalls -/

/-- The link after a stall, before an attempt is counted (R167). -/
def stalledLink (l : Link) : Link := { l.leaveFrame .seeking with stall := 0, stalled := true }

/-- A stall is taken once until LCK has been high (R167). -/
theorem exec_linkStall (header : Option Byte) (on : s.link.line ≠ .off) (first : s.link.stalled = false) :
    exec (.linkStall header) s = .next (takeStall header s) := by
  refine congrArg _ (if_neg ?_)
  simp [on, first]

/-- The stall of a station that sends nothing is journaled and nothing counted (R167). -/
theorem takeStall_receiver (header : Option Byte) (receiver : s.link.line ≠ .sending) :
    takeStall header s =
      reportStall s.link.line (stallHeader header s) (setLink (stalledLink s.link) s) :=
  congrArg (reportStall s.link.line (stallHeader header s)) (if_neg receiver)

/-- At a transmitter the stall is a counted attempt too (R162, R167). -/
theorem takeStall_transmitter (header : Option Byte) (sends : s.link.line = .sending) :
    takeStall header s =
      reportStall .sending (stallHeader header s) (countAttempt .stall (setLink (stalledLink s.link) s)) := by
  have counted : takeStall header s =
      reportStall s.link.line (stallHeader header s) (countAttempt .stall (setLink (stalledLink s.link) s)) :=
    congrArg (reportStall s.link.line (stallHeader header s)) (if_pos sends)
  rw [counted, sends]

/-- The header shown is the whole frame's own, and before that the sampled one (R210). -/
theorem stallHeader_inFrame {header shown : Option Byte} (inFrame : s.link.line = .receiving ∨ s.link.line = .sending)
    (h : s.link.assembly = none ∧ shown = header ∨ ∃ f, s.link.assembly = some f ∧ shown = some f.header) :
    stallHeader header s = shown := by
  have sampled : (s.link.assembly.map (fun f => f.header)).or header = shown := by
    rcases h with ⟨unfinished, rfl⟩ | ⟨f, whole, rfl⟩
    · rw [unfinished]; rfl
    · rw [whole]; rfl
  unfold stallHeader
  rcases inFrame with line | line
  · rw [line]; exact sampled
  · rw [line]; exact sampled

/-- A receiver's or a waiting station's stall (R167, R210): nothing is counted, and LINK_STALL is journaled. -/
theorem linkStall_receiver {header shown : Option Byte} {state : LineState} (line : s.link.line = state)
    (on : state ≠ .off) (receiver : state ≠ .sending) (first : s.link.stalled = false)
    (shows : stallHeader header s = shown) :
    ∃ t, exec (.linkStall header) s = .next t
      ∧ t = { s with
          link := stalledLink s.link
          journal := t.journal
          ops := s.ops.dropRef s.journal.next
          store := s.store.dropRef s.journal.next }
      ∧ FaultJournaled .linkStall (byteOf state.stallValue) (shown.getD 0) (boolByte shown.isSome) 0 s t := by
  subst line shows
  exact ⟨_, (exec_linkStall header on first).trans (congrArg _ (takeStall_receiver header receiver)), rfl, rfl⟩

/-- Of two records written one after the other each stands at its position (R201, R203). -/
theorem push_push_records (j : Journal) (r q : Record) :
    ((j.push r).push q).records[j.next] = some r ∧ ((j.push r).push q).records[j.next + 1] = some q := by
  have apart : ∀ p : Fin 32, p ≠ p + 1 := by decide
  refine ⟨?_, (j.push r).push_at q⟩
  rw [(j.push r).push_other q _ (apart j.next), j.push_at r]

/-- Settles O50: the events by what they do to the frame in hand, and the journal by its records. -/
theorem failedAttemptsAreCounted : Obligations.FailedAttemptsAreCounted := by
  unfold Obligations.FailedAttemptsAreCounted
  intro s
  refine ⟨fun h cmd cause x sends inHand event => ?_, fun f assembled capture unobjected sends => ?_,
    fun f cause assembled receives stopped => exec_notAccepted_receiving assembled receives stopped,
    fun header taken => congrArg _ (if_pos taken), fun header shown x first line => ?_,
    fun h header shown first sends inHand frame => ?_⟩
  · obtain ⟨why, rfl, counted⟩ := exec_failedAttempt sends event
    have kept : (setLink (s.link.leaveFrame x) s).link.hand = some h := inHand
    rw [counted]
    refine ⟨fun below => ?_, fun third => ?_⟩
    · rw [countAttempt_below why kept below]; rfl
    · rw [countAttempt_third why kept third]
      exact ⟨_, rfl, rfl, rfl⟩
  · refine ⟨_, exec_vetoed_sending assembled capture unobjected sends, rfl, fun l k bytes => ?_⟩
    rw [bytes]; rfl
  · rcases line with ⟨seeking, rfl, rfl⟩ | ⟨idle, rfl, rfl⟩ | ⟨receives, rfl, unfinished⟩ | ⟨f, receives, rfl, whole⟩
    · exact linkStall_receiver seeking (by decide) (by decide) first (by rw [stallHeader, seeking])
    · exact linkStall_receiver idle (by decide) (by decide) first (by rw [stallHeader, idle])
    · exact linkStall_receiver receives (by decide) (by decide) first
        (stallHeader_inFrame (.inl receives) (.inl unfinished))
    · exact linkStall_receiver receives (by decide) (by decide) first
        (stallHeader_inFrame (.inl receives) (.inr ⟨f, whole⟩))
  · have kept : (setLink (stalledLink s.link) s).link.hand = some h := inHand
    have event : exec (.linkStall header) s = .next
        (reportStall .sending shown (countAttempt .stall (setLink (stalledLink s.link) s))) := by
      rw [exec_linkStall header (by rw [sends]; decide) first, takeStall_transmitter header sends,
        stallHeader_inFrame (.inr sends) frame]
    by_cases below : h.attempts < 2
    · rw [countAttempt_below .stall kept below] at event
      exact ⟨_, event, rfl, fun _ => ⟨rfl, rfl⟩, fun third => absurd below (Nat.not_lt.2 third)⟩
    · rw [countAttempt_third .stall kept (Nat.not_lt.1 below)] at event
      obtain ⟨dropped, stalled⟩ := push_push_records s.journal
        (faultRecord .linkFault (headerByte h.frame.kind s.start.station) 2 0 0 s)
        (faultRecord .linkStall 3 (shown.getD 0) (boolByte shown.isSome) 0
          (reportFault .linkFault (headerByte h.frame.kind s.start.station) 2 0 0 s))
      refine ⟨_, event, rfl, fun less => absurd less below, fun _ => ⟨rfl, ?_, ?_, ?_⟩⟩
      · exact congrArg (Option.map (fun r => r.subject)) dropped
      · exact congrArg (Option.map (fun r => r.subject)) stalled
      · exact BitVec.add_assoc s.journal.number 1 1

end Sys2Proof.Machine
end

section
/-! PROOF. What changes the mode: a cold reset, the completion of a start, a RESTART and a duplicate's first frame
(R175, R195, R197, R220, R222, R224). -/

namespace Sys2Proof.Machine

variable {s : State}

/-! ### The completion of a start (R222) -/

theorem complete_mode (s : State) : (complete s).view.mode = .run ∨ (complete s).view.mode = .safe := by
  rw [complete_eq, SilenceKept.announceRun.mode]
  cases safe : s.start.safe
  · rw [enterMode_run safe]; exact .inl rfl
  · rw [enterMode_safe safe]; exact .inr rfl

/-! ### Deliveries (R195, R197) -/

/-- The duplicate check ends RUN at the first duplicate, and otherwise keeps the mode. -/
theorem detectDuplicate_mode (header : Byte) (s : State) :
    (detectDuplicate header s).view.mode = s.view.mode
      ∨ s.view.mode = .run ∧ s.view.duplicateSeen = false ∧ (detectDuplicate header s).view.mode = .listen := by
  by_cases run : s.view.mode = .run
  · cases seen : s.view.duplicateSeen
    · rw [detectDuplicate_run header seen run]; exact .inr ⟨run, rfl, rfl⟩
    · rw [detectDuplicate_ignored header (.inl seen)]; exact .inl rfl
  · exact .inl (detectDuplicate_outsideRun header run).1

/-- A delivery keeps the mode, unless it is in RUN that of the first received frame with the station's own number. -/
theorem delivery_mode (s : State) (mark : Mark) (f : WireFrame) (m : Msg) :
    (delivery s mark f m).view.mode = s.view.mode
      ∨ mark = .received ∧ headerOrigin f.header = s.start.station ∧ s.view.mode = .run
          ∧ s.view.duplicateSeen = false ∧ (delivery s mark f m).view.mode = .listen := by
  obtain ⟨-, -, mode, seen, -, -⟩ := effect_kept mark f.header m (heard s mark f m)
  by_cases other : mark = .transmitted ∨ headerOrigin f.header ≠ s.start.station
  · rw [delivery_other other, greet_view]
    exact .inl mode
  · obtain ⟨received, own⟩ := not_or.1 other
    cases mark with
    | transmitted => exact absurd rfl received
    | received =>
      have same : headerOrigin f.header = s.start.station := not_not.1 own
      rw [delivery_own same]
      rcases detectDuplicate_mode f.header _ with kept | ⟨run, first, listen⟩
      · exact .inl (kept.trans mode)
      · exact .inr ⟨rfl, same, mode.symm.trans run, seen.symm.trans first, listen⟩

/-- A frame that is accepted as one of some kind is delivered as a message of that kind. -/
theorem acceptedFrame_kind {kind : Nat} {mark : Mark} {header : Byte} {m : Msg}
    (h : acceptedFrame kind s = some (mark, header, m)) : m.kind = kind := by
  unfold acceptedFrame at h
  split at h
  · split at h
    · rename_i msg
      split at h
      · rename_i good
        cases h
        exact (frameMsg_kind _ _ msg).symm.trans good.1
      · cases h
    · cases h
  · cases h

/-- The STOP of a frame of one kind: nothing, or the delivery of an accepted frame of that kind (R161, R177). -/
theorem acceptFrame_cases (kind : Nat) (s : State) :
    acceptFrame kind s = s
      ∨ ∃ mark f m, Accepted s mark f m ∧ m.kind = kind ∧ acceptFrame kind s = delivery s mark f m := by
  cases taken : acceptedFrame kind s with
  | none => left; unfold acceptFrame; rw [taken]
  | some x =>
    obtain ⟨mark, header, m⟩ := x
    obtain ⟨f, accepted, rfl⟩ := acceptedFrame_accepted taken
    have same := acceptedFrame_kind taken
    refine .inr ⟨mark, f, m, accepted, same, ?_⟩
    rw [← same, acceptFrame_of_accepted accepted, deliver_steps]; rfl

/-- The STOP of a frame keeps the mode, unless a duplicate's first frame is delivered in RUN. -/
theorem acceptFrame_mode (kind : Nat) (s : State) :
    (acceptFrame kind s).view.mode = s.view.mode
      ∨ s.view.mode = .run ∧ (acceptFrame kind s).view.mode = .listen ∧ s.view.duplicateSeen = false
          ∧ ∃ f m, Accepted s .received f m ∧ frameCommand kind = frameCommand m.kind
            ∧ headerOrigin f.header = s.start.station := by
  rcases acceptFrame_cases kind s with ignored | ⟨mark, f, m, accepted, rfl, delivered⟩
  · exact .inl (congrArg (fun u => u.view.mode) ignored)
  · rw [delivered]
    rcases delivery_mode s mark f m with kept | ⟨rfl, own, run, first, listen⟩
    · exact .inl kept
    · exact .inr ⟨run, listen, first, f, m, accepted, rfl, own⟩

/-! ### Service commands (R224, R227, R234) -/

/-- The bytes of every other command, and those with illegal ranges, are judged otherwise (R227, R228). -/
theorem parseCommand_restart {code : Nat} {args : List Byte} (h : parseCommand code args = some .restart) :
    code = 10 ∧ args = [] := by
  match code, args, h with
  | 10, [], _ => exact ⟨rfl, rfl⟩
  | 1, [], h | 3, [], h | 4, [_], h => cases h
  | 2, [_], h | 5, [_, _], h | 6, _ :: _ :: _, h =>
    obtain ⟨_, other⟩ := Option.dite_none_right_eq_some.1 h
    cases other
  | 7, [_, _, _], h | 8, _ :: _ :: _ :: _, h | 9, [_, _], h =>
    obtain ⟨_, other⟩ := Option.ite_none_right_eq_some.1 h
    cases other
  | 0, _, h | 1, _ :: _, h | 2, [], h | 2, _ :: _ :: _, h | 3, _ :: _, h | 4, [], h | 4, _ :: _ :: _, h => cases h
  | 5, [], h | 5, [_], h | 5, _ :: _ :: _ :: _, h | 6, [], h | 6, [_], h => cases h
  | 7, [], h | 7, [_], h | 7, [_, _], h | 7, _ :: _ :: _ :: _ :: _, h => cases h
  | 8, [], h | 8, [_], h | 8, [_, _], h | 9, [], h | 9, [_], h | 9, _ :: _ :: _ :: _, h => cases h
  | 10, _ :: _, h | _ + 11, _, h => cases h

/-- The only bytes that are judged to be RESTART are its code and sum byte (R227, R228). -/
theorem judgeCommand_restart {bytes : List Byte} (h : judgeCommand bytes = some .restart) :
    bytes = withSum [0x0A] := by
  unfold judgeCommand at h
  split at h
  · rename_i sum
    split at h
    · cases h
    · rename_i code args body
      obtain ⟨value, rfl⟩ := parseCommand_restart h
      have ten : code = 0x0A := BitVec.eq_of_toNat_eq value
      have nonempty : bytes ≠ [] := by rintro rfl; cases body
      obtain ⟨last, rfl⟩ : ∃ last, bytes = [0x0A, last] := by
        refine ⟨bytes.getLast nonempty, ?_⟩
        rw [← ten, ← List.singleton_append, ← body]
        exact (List.dropLast_concat_getLast nonempty).symm
      have check : last = sumByte [0x0A] := by
        simp only [sumByte, List.foldl_cons, List.foldl_nil] at *
        bv_omega
      rw [check]; rfl
  · cases h

theorem withSum_injective {b c : List Byte} (h : withSum b = withSum c) : b = c := List.append_inj_left' h rfl

/-- A command taken at the port keeps the mode, unless it is a RESTART outside STARTING. -/
theorem takeCommand_mode (c : ServiceCmd) (s : State) :
    (takeCommand c s).view.mode = s.view.mode
      ∨ c = .restart ∧ s.view.mode ≠ .starting ∧ (takeCommand c s).view.mode = .starting := by
  by_cases restart : c = .restart
  · subst restart
    show (unlessStarting s (takeRestart s)).view.mode = _ ∨ _ ∧ _ ∧ (unlessStarting s (takeRestart s)).view.mode = _
    unfold unlessStarting takeRestart
    split
    · exact .inl rfl
    · rename_i started
      split
      · exact .inr ⟨rfl, started, rfl⟩
      · exact .inl rfl
  · exact .inl (SoundKept.takeCommand restart).mode

/-- The end of a command keeps the mode, unless its bytes are a RESTART's outside STARTING. -/
theorem endCommand_mode (spoilt : Bool) (bytes : List Byte) (s : State) :
    (endCommand spoilt bytes s).view.mode = s.view.mode
      ∨ bytes = withSum [0x0A] ∧ s.view.mode ≠ .starting ∧ (endCommand spoilt bytes s).view.mode = .starting := by
  unfold endCommand
  dsimp only
  split
  · rename_i c judged
    rcases takeCommand_mode c { s with port := { s.port with assembly := [], bad := false, overlong := false } }
      with kept | ⟨rfl, started, restarted⟩
    · exact .inl kept
    · have sound : judgeCommand bytes = some .restart := by
        cases spoilt
        · exact judged
        · cases judged
      exact .inr ⟨judgeCommand_restart sound, started, restarted⟩
  · exact .inl rfl

theorem serviceCommand_mode {body : List Byte} {t : State} (e : serviceCommand body s = .next t) :
    t.view.mode = s.view.mode ∨ body = [0x0A] ∧ s.view.mode ≠ .starting ∧ t.view.mode = .starting := by
  cases e
  split
  · exact (endCommand_mode false (withSum body) s).imp_right fun ⟨bytes, h⟩ => ⟨withSum_injective bytes, h⟩
  · exact .inl rfl

/-- A service command whose bytes are not RESTART's keeps the mode. -/
theorem serviceCommand_keepsMode {body : List Byte} {t : State} (other : body ≠ [0x0A])
    (e : serviceCommand body s = .next t) : t.view.mode = s.view.mode :=
  (serviceCommand_mode e).resolve_right fun ⟨restart, _⟩ => other restart

/-- The end of the gap keeps the mode, unless it ends a RESTART outside STARTING (R226). -/
theorem execGapTimerExpiry_mode {t : State} (e : execGapTimerExpiry s = .next t) :
    t.view.mode = s.view.mode
      ∨ s.port.state = .assembling ∧ s.port.assembly = withSum [0x0A] ∧ s.view.mode ≠ .starting
          ∧ t.view.mode = .starting := by
  cases e
  split
  · rename_i assembling
    exact (endCommand_mode _ _ s).imp_right fun h => ⟨assembling, h⟩
  · exact .inl rfl
  · exact .inl rfl

/-! ### The commands -/

/-- The commands that can change the mode: the resets, the completion of a start, the deliveries, and the end of the gap,
which can end a RESTART. -/
def mayChangeMode : Instr → Bool
  | .coldReset | .startUpCompletion | .restart | .gapTimerExpiry => true
  | .cancelFrame | .recallFrame | .captureFrame | .handsetFrame | .toggleFrame => true
  | .tuttiFrame | .stageFrame | .setterFrame | .levelFrame | .announceFrame => true
  | _ => false

theorem mode_ite {p : Prop} [Decidable p] {t : State} (h : t.view.mode = s.view.mode) :
    (if p then t else s).view.mode = s.view.mode := by
  split
  · exact h
  · rfl

/-- Every other command keeps the mode. -/
theorem exec_keepsMode {t : State} {c : Instr} (ordinary : mayChangeMode c = false) (e : exec c s = .next t) :
    t.view.mode = s.view.mode := by
  cases c with
  | loadEvent => cases e; exact mode_ite (congrArg View.mode (load_view s))
  | debouncedChange c on => cases e; exact mode_ite (SilenceKept.debouncedChange c on).mode
  | shiftEnd => cases e; rfl
  | pistonPress i => exact (execPistonPress_kept i e).mode
  | pistonRelease i => exact (execPistonRelease_kept i e).mode
  | sequenceEndTimerExpiry => cases e; exact mode_ite rfl
  | sampleEvent r => cases e; exact mode_ite (SoundKept.takeSample r).mode
  | intervalTimerExpiry => cases e; exact mode_ite SoundKept.endInterval.mode
  | supplyFirstSample high => exact (execSupplyFirstSample_kept high e).mode
  | supplyLoss => exact (execSupplyLoss_kept e).mode
  | supplyWaitStart => cases e; exact mode_ite rfl
  | supplyWaitAbandon => cases e; exact mode_ite rfl
  | restore => cases e; exact mode_ite SoundKept.restoreSupply.mode
  | pulseStart => exact (execPulseStart_kept e).mode
  | pulseEnd c => exact (execPulseEnd_kept c e).mode
  | verify c =>
    cases e
    split
    · exact congrArg View.mode (verifyMove_view ..)
    · rfl
  | takeUpHead => exact (execTakeUpHead_silenceKept e).mode
  | storingCaptureRetake => exact (execStoringCaptureRetake_kept e).mode
  | fetchServe => exact (execFetchServe_kept e).mode
  | fetchResult => exact (execFetchResult_silenceKept e).mode
  | writeIssue => exact (execWriteIssue_kept e).mode
  | writeComplete => exact (execWriteComplete_kept e).mode
  | storeFault => exact (execStoreFault_kept e).mode
  | synchronise => cases e; exact mode_ite rfl
  | disturbance => cases e; exact mode_ite rfl
  | frameStart => exact (execFrameStart_kept e).mode
  | frameReceived f => exact (execFrameReceived_kept f e).mode
  | stretchExpiry => cases e; exact mode_ite rfl
  | frameNotAccepted cause => exact (execFrameNotAccepted_kept cause e).mode
  | linkFaultTimerExpiry => cases e; exact mode_ite rfl
  | brokenFrame => exact (execBrokenFrame_kept e).mode
  | linkStall header => exact (execLinkStall_kept header e).mode
  | serviceByteArrival b framed => cases e; rfl
  | ident => exact serviceCommand_keepsMode (by decide) e
  | status group => exact serviceCommand_keepsMode (by simp) e
  | channels => exact serviceCommand_keepsMode (by decide) e
  | journal k => exact serviceCommand_keepsMode (by simp) e
  | slotRead level slot => exact serviceCommand_keepsMode (by simp) e
  | slotWrite level slot data => exact serviceCommand_keepsMode (by simp) e
  | imageRead offset length => exact serviceCommand_keepsMode (by simp) e
  | imageWrite offset data => exact serviceCommand_keepsMode (by simp) e
  | serviceLock level state => exact serviceCommand_keepsMode (by simp) e
  | replyEnd => cases e; exact mode_ite rfl
  | flashTimerExpiry f => cases e; cases f <;> rfl
  | startReceiving => cases e; exact mode_ite rfl
  | arbitrationLost => cases e; exact mode_ite rfl
  | stopWithoutDelivery => exact (execStopWithoutDelivery_kept e).mode
  | _ => cases ordinary

/-- Settles O10: each command that can change the mode by its own rule, and every other by what it keeps. -/
theorem modeChangesOnlyAsListed : Obligations.ModeChangesOnlyAsListed := by
  unfold Obligations.ModeChangesOnlyAsListed
  intro c s t e
  cases c with
  | coldReset => cases e; exact .inr (.inr (.inr (.inl ⟨rfl, rfl⟩)))
  | startUpCompletion =>
    cases e
    split
    · rename_i starting
      exact .inr (.inl ⟨rfl, starting.1, complete_mode s⟩)
    · exact .inl rfl
  | restart =>
    exact (serviceCommand_mode e).imp_right fun ⟨_, started, restarted⟩ =>
      .inr (.inr (.inr ⟨started, restarted, .inl rfl⟩))
  | gapTimerExpiry =>
    exact (execGapTimerExpiry_mode e).imp_right fun ⟨assembling, bytes, started, restarted⟩ =>
      .inr (.inr (.inr ⟨started, restarted, .inr ⟨rfl, assembling, bytes⟩⟩))
  | cancelFrame => cases e; exact (acceptFrame_mode 0 s).imp_right fun h => .inr (.inl h)
  | recallFrame => cases e; exact (acceptFrame_mode 1 s).imp_right fun h => .inr (.inl h)
  | captureFrame => cases e; exact (acceptFrame_mode 2 s).imp_right fun h => .inr (.inl h)
  | handsetFrame => cases e; exact (acceptFrame_mode 3 s).imp_right fun h => .inr (.inl h)
  | toggleFrame => cases e; exact (acceptFrame_mode 4 s).imp_right fun h => .inr (.inl h)
  | tuttiFrame => cases e; exact (acceptFrame_mode 5 s).imp_right fun h => .inr (.inl h)
  | stageFrame => cases e; exact (acceptFrame_mode 6 s).imp_right fun h => .inr (.inl h)
  | setterFrame => cases e; exact (acceptFrame_mode 7 s).imp_right fun h => .inr (.inl h)
  | levelFrame => cases e; exact (acceptFrame_mode 8 s).imp_right fun h => .inr (.inl h)
  | announceFrame => cases e; exact (acceptFrame_mode 9 s).imp_right fun h => .inr (.inl h)
  | _ => exact .inl (exec_keepsMode rfl e)

end Sys2Proof.Machine
end

section
/-! PROOF. LEVEL: the view's level and what shows it (R187, R237). -/

namespace Sys2Proof.Machine

variable {s : State}

/-- A working station works on after a delivery: a duplicate's frame ends RUN in LISTEN (R195, R197). -/
theorem delivery_working (mark : Mark) (f : WireFrame) (m : Msg) (works : working s = true) :
    working (delivery s mark f m) = true := by
  rcases delivery_mode s mark f m with kept | ⟨-, -, -, -, listen⟩
  · unfold working; rw [kept]; exact works
  · unfold working; rw [listen]; rfl

/-- Settles O54: the effect sets the level, and the rest of a delivery leaves it. -/
theorem levelFrameSetsTheLevel : Obligations.LevelFrameSetsTheLevel := by
  unfold Obligations.LevelFrameSetsTheLevel
  intro s mark f l accepted
  have sets : effect mark f.header (.level l) (heard s mark f (.level l)) = { heard s mark f (.level l) with
      view := { (heard s mark f (.level l)).view with level := l.toFin } } := rfl
  obtain ⟨frame, -, view, -, -⟩ := delivery_viewDelivered sets
  have level : (delivery s mark f (.level l)).view.level = l.toFin := by rw [view]
  have params : (delivery s mark f (.level l)).params = s.params := by rw [frame]
  have lockCopy : (delivery s mark f (.level l)).store.lockCopy = s.store.lockCopy := by rw [frame]
  refine ⟨_, exec_accepted accepted, level, by rw [view]; rfl, fun role works n => ?_, fun role => ?_,
    delivery_sets sets⟩
  · unfold levelLine
    rw [delivery_working mark f _ works, params, role, level]; rfl
  · show (_ && _) = _
    rw [params, role, lockCopy, level]; rfl

end Sys2Proof.Machine
end

section
/-! PROOF. What the law of the journal looks at: the positions that fill in turn, the references that each name an OPEN
record of its own, and how records, references and queues may change (R201, R204, R206, R208). -/

namespace Sys2Proof.Machine

/-! ### The journal and a list of references -/

/-- The first `held` positions hold a record, the others none, and while some are free the next record goes into the
first free one (R201). -/
def Journal.InTurn (j : Journal) : Prop :=
  j.held ≤ 32 ∧ (j.held < 32 → j.next.val = j.held) ∧ ∀ i : Fin 32, j.records[i].isSome = decide (i.val < j.held)

/-- Each of these references names a record of its own, and that record is OPEN (R206, R208). -/
def Journal.Opens (j : Journal) (refs : List (Fin 32)) : Prop :=
  refs.Nodup ∧ ∀ p ∈ refs, ∃ r, j.records[p] = some r ∧ r.state = .opened

/-- An update writes nothing, or the OPEN record that the reference names (R204, R206). -/
theorem Journal.update_cases (j : Journal) (ref : Option (Fin 32)) (f : Record → Record) :
    j.update ref f = j
      ∨ ∃ p r, ref = some p ∧ j.records[p] = some r ∧ r.state = .opened
          ∧ j.update ref f = { j with records := j.records.set p (some (f r)) } := by
  unfold Journal.update
  cases ref with
  | none => exact .inl rfl
  | some p =>
    dsimp only
    cases held : j.records[p] with
    | none => exact .inl rfl
    | some r =>
      by_cases opened : r.state = .opened
      · exact .inr ⟨p, r, rfl, held, opened, if_pos opened⟩
      · exact .inl (if_neg opened)

/-- An update brings no record in and takes none out (R204). -/
theorem Journal.update_isSome (j : Journal) (ref : Option (Fin 32)) (f : Record → Record) (p : Fin 32) :
    (j.update ref f).records[p].isSome = j.records[p].isSome := by
  rcases j.update_cases ref f with same | ⟨q, r, named, held, opened, -⟩
  · rw [same]
  · by_cases own : p = q
    · subst own
      rw [j.update_at ref f p r named held opened, held]; rfl
    · rw [j.update_other ref f p (by rw [named]; exact fun h => own (Option.some.inj h).symm)]

theorem Journal.InTurn.update {j : Journal} (h : j.InTurn) (ref : Option (Fin 32)) (f : Record → Record) :
    (j.update ref f).InTurn := by
  obtain ⟨bound, next, filled⟩ := h
  have beside := j.update_frame ref f
  refine ⟨by rw [beside]; exact bound, by rw [beside]; exact next, fun i => ?_⟩
  rw [j.update_isSome, filled, beside]

/-- A new record takes the first free position, or while none is free that of the oldest (R201, R203). -/
theorem Journal.InTurn.push {j : Journal} (h : j.InTurn) (r : Record) : (j.push r).InTurn := by
  obtain ⟨bound, next, filled⟩ := h
  have held : (j.push r).held = min 32 (j.held + 1) := rfl
  have turned : (j.push r).next.val = (j.next.val + 1) % 32 := rfl
  have small := j.next.isLt
  refine ⟨by omega, by omega, fun i => ?_⟩
  by_cases new : i = j.next
  · subst new
    rw [j.push_at, held, Option.isSome_some, eq_comm, decide_eq_true_eq]
    omega
  · have apart : i.val ≠ j.next.val := fun same => new (Fin.ext same)
    rw [j.push_other r i new, filled, held, decide_eq_decide]
    omega

/-- Fewer references, in any order. -/
theorem Journal.Opens.subperm {j : Journal} {refs fewer : List (Fin 32)} (h : j.Opens refs) (sub : fewer.Subperm refs) :
    j.Opens fewer := by
  obtain ⟨distinct, opened⟩ := h
  obtain ⟨l, order, part⟩ := sub
  exact ⟨order.nodup_iff.1 (distinct.sublist part), fun p hp => opened p (part.subset (order.mem_iff.2 hp))⟩

/-- An update that leaves the record's state keeps every reference (R206). -/
theorem Journal.Opens.update {j : Journal} {refs : List (Fin 32)} (h : j.Opens refs) (ref : Option (Fin 32))
    {f : Record → Record} (state : ∀ r, (f r).state = r.state) : (j.update ref f).Opens refs := by
  refine ⟨h.1, fun p hp => ?_⟩
  obtain ⟨r, held, opened⟩ := h.2 p hp
  by_cases named : ref = some p
  · exact ⟨f r, j.update_at ref f p r named held opened, (state r).trans opened⟩
  · exact ⟨r, (j.update_other ref f p named).trans held, opened⟩

/-- A closing ends the reference that it closes by, and keeps the others (R204). -/
theorem Journal.Opens.close {j : Journal} {refs : List (Fin 32)} {ref : Option (Fin 32)}
    (h : j.Opens (ref.toList ++ refs)) (st : RecState) (o : Option FaultCode) : (j.close ref st o).Opens refs := by
  obtain ⟨distinct, opened⟩ := h
  obtain ⟨-, others, apart⟩ := List.nodup_append.1 distinct
  refine ⟨others, fun p hp => ?_⟩
  rw [j.close_other ref st o p fun named => apart p (by simp [named]) p hp rfl]
  exact opened p (List.mem_append_right _ hp)

/-- A new record ends the reference to what stood in its position (R208). -/
theorem Journal.Opens.push {j : Journal} {refs : List (Fin 32)} (h : j.Opens refs) (r : Record) :
    (j.push r).Opens (refs.filter (· ≠ j.next)) := by
  refine ⟨h.1.filter _, fun p hp => ?_⟩
  obtain ⟨kept, other⟩ := List.mem_filter.1 hp
  rw [j.push_other r p (of_decide_eq_true other)]
  exact h.2 p kept

/-- An OPEN record can be referred to as soon as it is written (R206). -/
theorem Journal.Opens.pushOpened {j : Journal} {refs : List (Fin 32)} (h : j.Opens refs) {r : Record}
    (opened : r.state = .opened) : (j.push r).Opens (j.next :: refs.filter (· ≠ j.next)) := by
  obtain ⟨distinct, kept⟩ := h.push r
  refine ⟨List.nodup_cons.2 ⟨by simp, distinct⟩, fun p hp => ?_⟩
  rcases List.mem_cons.1 hp with rfl | hp
  · exact ⟨r, j.push_at r, opened⟩
  · exact kept p hp

/-! ### Several closings -/

/-- The journal after the records that these references name have been closed, one after another, in one event (R29,
R207). -/
def Journal.closeEach (j : Journal) (st : RecState) (refs : List (Option (Fin 32))) : Journal :=
  refs.foldl (fun j ref => j.close ref st none) j

theorem Journal.closeEach_append (j : Journal) (st : RecState) (refs more : List (Option (Fin 32))) :
    j.closeEach st (refs ++ more) = (j.closeEach st refs).closeEach st more := List.foldl_append

theorem Journal.closeEach_frame (j : Journal) (st : RecState) (refs : List (Option (Fin 32))) :
    j.closeEach st refs = { j with records := (j.closeEach st refs).records } := by
  induction refs generalizing j with
  | nil => rfl
  | cons ref refs ih =>
    have rest : j.closeEach st (ref :: refs)
        = { j.close ref st none with records := (j.closeEach st (ref :: refs)).records } := ih _
    rw [j.close_frame] at rest
    exact rest

theorem Journal.InTurn.closeEach {j : Journal} (h : j.InTurn) (st : RecState) (refs : List (Option (Fin 32))) :
    (j.closeEach st refs).InTurn := by
  induction refs generalizing j with
  | nil => exact h
  | cons ref refs ih => exact ih (h.update ref _)

/-- Closings leave every record that is not OPEN (R204). -/
theorem Journal.closeEach_notOpen {j : Journal} {p : Fin 32} {r : Record} (st : RecState)
    (refs : List (Option (Fin 32))) (held : j.records[p] = some r) (ended : r.state ≠ .opened) :
    (j.closeEach st refs).records[p] = some r := by
  induction refs generalizing j with
  | nil => exact held
  | cons ref refs ih => exact ih (j.close_notOpen ref st none held ended)

/-- Closings leave every record that none of them names (R204). -/
theorem Journal.closeEach_other (j : Journal) (st : RecState) {refs : List (Option (Fin 32))} {p : Fin 32}
    (unnamed : some p ∉ refs) : (j.closeEach st refs).records[p] = j.records[p] := by
  induction refs generalizing j with
  | nil => rfl
  | cons ref refs ih =>
    obtain ⟨other, rest⟩ := not_or.1 (fun h => unnamed (List.mem_cons.2 h))
    exact (ih (j.close ref st none) rest).trans (j.close_other ref st none p fun same => other same.symm)

/-- An OPEN record that some closing names closes at the first of them, and stays so (R204). -/
theorem Journal.closeEach_at {j : Journal} {st : RecState} (ending : st ≠ .opened) {refs : List (Option (Fin 32))}
    {p : Fin 32} {r : Record} (named : some p ∈ refs) (held : j.records[p] = some r) (opened : r.state = .opened) :
    (j.closeEach st refs).records[p] = some (r.closedAs st none j.timeTag) := by
  induction refs generalizing j with
  | nil => cases named
  | cons ref refs ih =>
    by_cases first : ref = some p
    · exact Journal.closeEach_notOpen st refs (j.close_at ref st none p r first held opened) ending
    · have later : some p ∈ refs := (List.mem_cons.1 named).resolve_left fun same => first same.symm
      have tag : (j.close ref st none).timeTag = j.timeTag := by rw [j.close_frame]
      rw [← tag]
      exact ih later ((j.close_other ref st none p first).trans held)

theorem closeAll_journal (st : RecState) (es : List OpEntry) (s : State) :
    (closeAll st es s).journal = s.journal.closeEach st (es.map fun e => e.record) := by
  induction es generalizing s with
  | nil => rfl
  | cons e es ih => exact ih (closeRecord e.record st none s)

/-! ### The references of a station -/

/-- The references of these operations (R206). -/
def opRefs (l : List OpEntry) : List (Fin 32) := l.filterMap (fun e => e.record)

/-- The references of the captures among these writes (R206). -/
def captureRefs (q : List WriteEntry) : List (Fin 32) := q.filterMap (fun e => e.capture)

/-- The reference of the DRIVING operation (R206). -/
def drivingRef (d : Option Driving) : Option (Fin 32) := d.bind (fun d => d.record)

theorem closeDriving_eq (st : RecState) (s : State) :
    closeDriving st s
      = closeRecord (drivingRef s.ops.driving) st none { s with ops := { s.ops with driving := none } } := by
  unfold closeDriving closeRecord
  cases s.ops.driving <;> rfl

/-- The references of the listed operations and of the DRIVING one (R206). -/
def Sequencer.refs (q : Sequencer) : List (Option (Fin 32)) := (q.list.map fun e => e.record) ++ [drivingRef q.driving]

theorem Sequencer.mem_refs {q : Sequencer} {p : Fin 32} :
    some p ∈ q.refs ↔ (∃ e ∈ q.list, e.record = some p) ∨ ∃ d, q.driving = some d ∧ d.record = some p := by
  simp only [refs, drivingRef, List.mem_append, List.mem_map, List.mem_singleton, eq_comm (a := some p),
    Option.bind_eq_some_iff]

/-- The records of the listed operations close, and then that of the DRIVING operation (R207). -/
theorem dropOperations_journal (s : State) :
    (dropOperations s).journal = s.journal.closeEach .dropped s.ops.refs := by
  rw [Sequencer.refs, Journal.closeEach_append, ← closeAll_journal, dropOperations, closeDriving_eq, closeAll_ops]
  rfl

theorem recordRefs_eq (s : State) :
    recordRefs s = opRefs s.ops.list ++ (drivingRef s.ops.driving).toList ++ captureRefs s.store.queue := rfl

theorem opRefs_cons (e : OpEntry) (l : List OpEntry) : opRefs (e :: l) = e.record.toList ++ opRefs l := by
  simp only [opRefs, List.filterMap_eq_flatMap_toList, List.flatMap_cons]

theorem captureRefs_cons (e : WriteEntry) (q : List WriteEntry) :
    captureRefs (e :: q) = e.capture.toList ++ captureRefs q := by
  simp only [captureRefs, List.filterMap_eq_flatMap_toList, List.flatMap_cons]

theorem opRefs_append (l m : List OpEntry) : opRefs (l ++ m) = opRefs l ++ opRefs m := List.filterMap_append

theorem captureRefs_append (q r : List WriteEntry) : captureRefs (q ++ r) = captureRefs q ++ captureRefs r :=
  List.filterMap_append

theorem dropRef_eq_filter (p : Fin 32) (r : Option (Fin 32)) : dropRef p r = r.filter (· ≠ p) := by
  unfold dropRef
  cases r with
  | none => rfl
  | some q => by_cases same : q = p <;> simp [Option.filter, same]

/-- A new record drops exactly the references to its position (R208). -/
theorem recordRefs_writeRecord (r : Record) (s : State) :
    recordRefs (writeRecord r s) = (recordRefs s).filter (· ≠ s.journal.next) := by
  have driving : (drivingRef (s.ops.driving.map fun d => { d with record := dropRef s.journal.next d.record })).toList
      = (drivingRef s.ops.driving).toList.filter (· ≠ s.journal.next) := by
    cases s.ops.driving with
    | none => rfl
    | some d =>
      show (dropRef s.journal.next d.record).toList = d.record.toList.filter _
      rw [dropRef_eq_filter, Option.toList_filter]
  have ops : opRefs (s.ops.list.map fun e => { e with record := dropRef s.journal.next e.record })
      = (opRefs s.ops.list).filter (· ≠ s.journal.next) := by
    unfold opRefs
    rw [List.filterMap_map, List.filter_filterMap]
    exact List.filterMap_congr fun e _ => dropRef_eq_filter _ _
  have captures : captureRefs (s.store.queue.map fun e => { e with capture := dropRef s.journal.next e.capture })
      = (captureRefs s.store.queue).filter (· ≠ s.journal.next) := by
    unfold captureRefs
    rw [List.filterMap_map, List.filter_filterMap]
    exact List.filterMap_congr fun e _ => dropRef_eq_filter _ _
  rw [recordRefs_eq, recordRefs_eq, List.filter_append, List.filter_append, ← driving, ← ops, ← captures]
  rfl

/-! ### The write queue and its captures -/

theorem waitingTargets_map {f : WriteEntry → WriteEntry} (target : ∀ e, (f e).target = e.target)
    (inFlight : ∀ e, (f e).inFlight = e.inFlight) (q : List WriteEntry) :
    waitingTargets (q.map f) = waitingTargets q := by
  unfold waitingTargets
  rw [List.filter_map, List.map_map]
  simp only [Function.comp_def, target, inFlight]

theorem waitsFor_iff {t : Target} {e : WriteEntry} : waitsFor t e = true ↔ e.target = t ∧ e.inFlight = false := by
  simp [waitsFor]

theorem mem_waitingTargets {t : Target} {q : List WriteEntry} :
    t ∈ waitingTargets q ↔ ∃ e ∈ q, waitsFor t e = true := by
  simp only [waitingTargets, List.mem_map, List.mem_filter, waitsFor_iff, Bool.not_eq_true']
  exact ⟨fun ⟨e, ⟨he, waits⟩, same⟩ => ⟨e, he, same, waits⟩, fun ⟨e, he, same, waits⟩ => ⟨e, ⟨he, waits⟩, same⟩⟩

theorem waitingTargets_append (q r : List WriteEntry) :
    waitingTargets (q ++ r) = waitingTargets q ++ waitingTargets r := by
  unfold waitingTargets; rw [List.filter_append, List.map_append]

/-- No two waiting entries get one target (R80). -/
theorem enterQueue_distinct {q r : List WriteEntry} {t : Target} {d : List Byte} {c : Option (Fin 32)}
    (distinct : (waitingTargets q).Nodup) (h : enterQueue q t d c = some r) : (waitingTargets r).Nodup := by
  obtain ⟨-, rfl⟩ | ⟨fresh, -, rfl⟩ := enterQueue_cases h
  · rwa [waitingTargets_map (fun e => by split <;> rfl) (fun e => by split <;> rfl)]
  · rw [waitingTargets_append]
    refine List.nodup_append.2 ⟨distinct, List.nodup_singleton t, fun u hu v hv same => ?_⟩
    obtain rfl := List.mem_singleton.1 hv
    subst same
    obtain ⟨e, he, waits⟩ := mem_waitingTargets.1 hu
    exact absurd (List.any_eq_true.2 ⟨e, he, waits⟩) (by rw [fresh]; decide)

/-- A write replaces in place the one entry that waits for its target: one reference comes, one goes (R42, R80). -/
theorem captureRefs_replaced {q : List WriteEntry} {t : Target} (d : List Byte) (c : Option (Fin 32))
    (distinct : (waitingTargets q).Nodup) (waits : q.any (waitsFor t) = true) :
    ((replacedCapture q t).toList ++ captureRefs
      (q.map fun e => if waitsFor t e then { e with data := d, capture := c } else e)).Perm
      (c.toList ++ captureRefs q) := by
  induction q with
  | nil => cases waits
  | cons e q ih =>
    rw [List.map_cons, captureRefs_cons, captureRefs_cons]
    cases own : waitsFor t e with
    | true =>
      obtain ⟨rfl, waiting⟩ := waitsFor_iff.1 own
      have cut : waitingTargets (e :: q) = e.target :: waitingTargets q := by simp [waitingTargets, waiting]
      rw [cut, List.nodup_cons, mem_waitingTargets] at distinct
      have others : (q.map fun x => if waitsFor e.target x then { x with data := d, capture := c } else x) = q :=
        (List.map_congr_left fun x hx => if_neg fun again => distinct.1 ⟨x, hx, again⟩).trans (List.map_id' q)
      have replaced : replacedCapture (e :: q) e.target = e.capture := by unfold replacedCapture; simp [own]
      rw [others, replaced]
      exact List.perm_append_comm_assoc _ _ _
    | false =>
      have rest : (waitingTargets q).Nodup := distinct.sublist ((List.sublist_cons_self e q).filter _ |>.map _)
      have replaced : replacedCapture (e :: q) t = replacedCapture q t := by unfold replacedCapture; simp [own]
      rw [List.any_cons, own, Bool.false_or] at waits
      rw [replaced]
      exact (List.perm_append_comm_assoc _ _ _).trans
        (((ih rest waits).append_left _).trans (List.perm_append_comm_assoc _ _ _))

/-- A write brings its capture's reference in, and takes out that of the capture it replaces (R42, R80). -/
theorem captureRefs_enterQueue {q r : List WriteEntry} {t : Target} {d : List Byte} {c : Option (Fin 32)}
    (distinct : (waitingTargets q).Nodup) (h : enterQueue q t d c = some r) :
    ((replacedCapture q t).toList ++ captureRefs r).Perm (c.toList ++ captureRefs q) := by
  obtain ⟨waits, rfl⟩ | ⟨fresh, -, rfl⟩ := enterQueue_cases h
  · exact captureRefs_replaced d c distinct waits
  · have unfound : replacedCapture q t = none := by
      unfold replacedCapture
      rw [List.find?_eq_none.2 fun e he waits => absurd (List.any_eq_true.2 ⟨e, he, waits⟩) (by rw [fresh]; decide)]
      rfl
    rw [unfound, captureRefs_append, captureRefs_cons]
    simpa [captureRefs] using List.perm_append_comm

end Sys2Proof.Machine
end

section
/-! PROOF. The shared operations keep the law of the journal: records are written, counted and closed, writes entered
and ended, operations listed, pruned, taken up and planned (R22–R43, R80, R201–R208). -/

namespace Sys2Proof.Machine

variable {s : State} {x : List (Fin 32)}

/-! ### The law -/

/-- The law of the journal with the station's references and these besides: the event that holds them in hand closes
their records or puts them back. No two waiting writes have one target, so that a write replaces one capture at most. -/
structure JournalLaw (x : List (Fin 32)) (s : State) : Prop where
  inTurn : s.journal.InTurn
  opens : s.journal.Opens (x ++ recordRefs s)
  distinct : (waitingTargets s.store.queue).Nodup

/-- Some references are put elsewhere or dropped, and no write comes to wait. -/
theorem JournalLaw.moved {y : List (Fin 32)} {t : State} (h : JournalLaw x s) (journal : t.journal = s.journal)
    (refs : (y ++ recordRefs t).Subperm (x ++ recordRefs s))
    (waiting : (waitingTargets t.store.queue).Sublist (waitingTargets s.store.queue)) : JournalLaw y t :=
  ⟨journal ▸ h.inTurn, journal ▸ h.opens.subperm refs, h.distinct.sublist waiting⟩

/-- A change outside journal, operations and write queue. -/
theorem JournalLaw.outside {t : State} (h : JournalLaw x s)
    (same : (t.journal, t.ops, t.store.queue) = (s.journal, s.ops, s.store.queue)) : JournalLaw x t := by
  simp only [Prod.mk.injEq] at same
  obtain ⟨journal, ops, queue⟩ := same
  refine h.moved journal ?_ (queue ▸ .refl _)
  rw [recordRefs_eq, ops, queue]
  exact .refl _

theorem JournalLaw.ite {p : Prop} [Decidable p] {t : State} (h : JournalLaw x s) (ht : p → JournalLaw x t) :
    JournalLaw x (if p then t else s) := by
  split
  · exact ht ‹p›
  · exact h

/-! ### Records -/

/-- A record of no reference is written (R201, R208). -/
theorem JournalLaw.writeRecord (h : JournalLaw [] s) (r : Record) : JournalLaw [] (writeRecord r s) where
  inTurn := h.inTurn.push r
  opens := by
    rw [List.nil_append, recordRefs_writeRecord]
    exact h.opens.push r
  distinct := (Store.dropRef_queueKept s.store s.journal.next).distinct h.distinct

/-- An OPEN record is written, its reference in hand (R26). -/
theorem JournalLaw.writeOpened (h : JournalLaw [] s) {r : Record} (opened : r.state = .opened) :
    JournalLaw [s.journal.next] (Machine.writeRecord r s) where
  inTurn := h.inTurn.push r
  opens := by
    rw [recordRefs_writeRecord]
    exact h.opens.pushOpened opened
  distinct := (h.writeRecord r).distinct

theorem JournalLaw.reportFault (h : JournalLaw [] s) (k : FaultCode) (a b c d : Byte) :
    JournalLaw [] (reportFault k a b c d s) := h.writeRecord _

/-- A closing ends the reference in hand that it closes by (R204). -/
theorem JournalLaw.closeRecord {ref : Option (Fin 32)} (h : JournalLaw (ref.toList ++ x) s) (st : RecState)
    (o : Option FaultCode) : JournalLaw x (closeRecord ref st o s) where
  inTurn := h.inTurn.update ref _
  opens := Journal.Opens.close (by rw [← List.append_assoc]; exact h.opens) st o
  distinct := h.distinct

theorem JournalLaw.closeAll {es : List OpEntry} (h : JournalLaw (opRefs es ++ x) s) (st : RecState) :
    JournalLaw x (closeAll st es s) := by
  induction es generalizing s with
  | nil => exact h
  | cons e es ih =>
    rw [opRefs_cons, List.append_assoc] at h
    exact ih (h.closeRecord st none)

/-- A count of the DRIVING operation rises, and its record stays OPEN (R38, R206). -/
theorem JournalLaw.countDriving (h : JournalLaw x s) (f : Counts → Counts) : JournalLaw x (countDriving f s) := by
  have driving : drivingRef (Machine.countDriving f s).ops.driving = drivingRef s.ops.driving := by
    show drivingRef (s.ops.driving.map _) = _
    cases s.ops.driving <;> rfl
  have refs : recordRefs (Machine.countDriving f s) = recordRefs s := by
    rw [recordRefs_eq, driving]; rfl
  have counted : (Machine.countDriving f s).journal.InTurn
      ∧ (Machine.countDriving f s).journal.Opens (x ++ recordRefs s) := by
    unfold Machine.countDriving
    dsimp only
    split
    · exact ⟨h.inTurn, h.opens⟩
    · exact ⟨h.inTurn.update _ _, h.opens.update _ fun _ => rfl⟩
  obtain ⟨inTurn, opens⟩ := counted
  exact ⟨inTurn, refs ▸ opens, h.distinct⟩

theorem JournalLaw.countDone (h : JournalLaw x s) (n : Nat) : JournalLaw x (countDone n s) := by
  induction n generalizing s with
  | zero => exact h
  | succ n ih => exact ih (h.countDriving _)

/-- The DRIVING operation is gone, its reference in hand. -/
theorem JournalLaw.undriven (h : JournalLaw x s) :
    JournalLaw ((drivingRef s.ops.driving).toList ++ x) { s with ops := { s.ops with driving := none } } := by
  refine h.moved rfl (List.Perm.subperm ?_) (.refl _)
  rw [recordRefs_eq, recordRefs_eq]
  refine List.perm_iff_count.2 fun p => ?_
  simp only [List.count_append, drivingRef, Option.bind_none, Option.toList_none, List.count_nil]
  omega

theorem JournalLaw.closeDriving (h : JournalLaw x s) (st : RecState) : JournalLaw x (closeDriving st s) := by
  rw [closeDriving_eq]
  exact h.undriven.closeRecord st none

theorem JournalLaw.closingCheck (h : JournalLaw x s) : JournalLaw x (closingCheck s) := by
  unfold Machine.closingCheck
  split
  · exact h
  · exact h.closeDriving _

/-! ### The write queue -/

/-- A write is entered: its capture's reference goes from hand into the queue, the one replaced closes (R42, R80). -/
theorem JournalLaw.entered {t : Target} {d : List Byte} {c : Option (Fin 32)} {q : List WriteEntry}
    (h : JournalLaw (c.toList ++ x) s) (entry : enterQueue s.store.queue t d c = some q) :
    JournalLaw x (Machine.closeRecord (replacedCapture s.store.queue t) .superseded none
      { s with store := { s.store with queue := q } }) := by
  have exchanged := captureRefs_enterQueue h.distinct entry
  have opens : s.journal.Opens ((replacedCapture s.store.queue t).toList ++ x
      ++ (opRefs s.ops.list ++ (drivingRef s.ops.driving).toList ++ captureRefs q)) := by
    refine h.opens.subperm (List.Perm.subperm (List.perm_iff_count.2 fun p => ?_))
    have count := exchanged.count_eq p
    simp only [List.count_append, recordRefs_eq] at count ⊢
    omega
  have queued : JournalLaw ((replacedCapture s.store.queue t).toList ++ x)
      { s with store := { s.store with queue := q } } := ⟨h.inTurn, opens, enterQueue_distinct h.distinct entry⟩
  exact queued.closeRecord _ _

theorem JournalLaw.enterWrite {t : Target} {d : List Byte} {u : State} (h : JournalLaw x s)
    (entry : enterWrite t d none s = some u) : JournalLaw x u := by
  unfold Machine.enterWrite at entry
  split at entry
  · cases entry
  · rename_i q hq
    cases entry
    exact h.entered (c := none) hq

theorem JournalLaw.enterAll {ts : List (Target × List Byte)} {u : State} (h : JournalLaw x s)
    (entry : enterAll ts s = some u) : JournalLaw x u := by
  induction ts generalizing s with
  | nil => cases entry; exact h
  | cons td ts ih =>
    unfold Machine.enterAll at entry
    split at entry
    · cases entry
    · rename_i v first
      exact ih (h.enterWrite first) entry

theorem JournalLaw.enterImage {offset : Nat} {data : List Byte} {u : State} (h : JournalLaw x s)
    (entry : enterImage offset data s = some u) : JournalLaw x u := by
  unfold Machine.enterImage at entry
  dsimp only at entry
  split at entry
  · exact h.enterAll entry
  · cases entry

theorem JournalLaw.writeLockByte (h : JournalLaw x s) (n : Fin 32) : JournalLaw x (writeLockByte n s) := by
  unfold Machine.writeLockByte
  split
  · rename_i u entry; exact h.enterWrite entry
  · exact h.outside rfl

theorem JournalLaw.writeCalibration (h : JournalLaw x s) : JournalLaw x (writeCalibration s) := by
  unfold Machine.writeCalibration
  split
  · rename_i u entry; exact h.enterWrite entry
  · exact h.outside rfl

theorem JournalLaw.serveMark (h : JournalLaw x s) : JournalLaw x (serveMark s) := by
  unfold Machine.serveMark
  split
  · exact JournalLaw.writeCalibration (h.outside rfl)
  · split
    · exact h
    · refine JournalLaw.writeLockByte ?_ _
      exact h.outside rfl

theorem JournalLaw.setLock (h : JournalLaw x s) (level : Fin 256) (lock : Bool) :
    JournalLaw x (setLock level lock s) := by
  refine JournalLaw.writeLockByte ?_ _
  exact h.outside rfl

theorem JournalLaw.serveFetch (h : JournalLaw x s) : JournalLaw x (serveFetch s) := by
  unfold Machine.serveFetch
  split
  · split
    · exact h.outside rfl
    · exact h
  · exact h

theorem JournalLaw.requestFetch (h : JournalLaw x s) (req : FetchReq) : JournalLaw x (requestFetch req s) :=
  JournalLaw.serveFetch (h.outside rfl)

/-- The head that is issued waits no more, and keeps its capture (R82). -/
theorem JournalLaw.issueWrite (h : JournalLaw x s) : JournalLaw x (issueWrite s) := by
  unfold Machine.issueWrite
  split
  · exact h
  · rename_i e rest hq
    refine h.ite fun _ => h.moved rfl ?_ ?_
    · rw [recordRefs_eq, recordRefs_eq, hq]
      exact .refl _
    · rw [hq]
      exact (List.sublist_cons_self e rest).filter _ |>.map _

/-- The head leaves the write queue at the end of its write, its capture's reference in hand (R83, R84). -/
theorem JournalLaw.endWrite (h : JournalLaw x s) (lit : Bool) :
    JournalLaw ((s.store.queue.head?.bind fun e => e.capture).toList ++ x) (endWrite lit s) := by
  refine h.moved rfl (List.Perm.subperm (List.perm_iff_count.2 fun p => ?_)) ((List.tail_sublist _).filter _ |>.map _)
  rw [recordRefs_eq, recordRefs_eq]
  show List.count p
    (_ ++ _ ++ (opRefs s.ops.list ++ (drivingRef s.ops.driving).toList ++ captureRefs s.store.queue.tail)) = _
  cases s.store.queue with
  | nil => simp
  | cons e rest =>
    simp only [List.head?_cons, Option.bind_some, List.tail_cons, captureRefs_cons, List.count_append]
    omega

theorem JournalLaw.afterWrite (h : JournalLaw x s) : JournalLaw x (afterWrite s) := h.serveFetch.serveMark.issueWrite

/-- The capture of the completed write closes (R83). -/
theorem JournalLaw.completeWrite (h : JournalLaw [] s) {e : WriteEntry} (head : s.store.queue.head? = some e) :
    JournalLaw [] (completeWrite e s) := by
  have stored : JournalLaw [] (storeWrite e s) := h.outside rfl
  have ended := stored.endWrite false
  rw [storeWrite_store, head] at ended
  exact (ended.closeRecord .closed none).afterWrite

/-- The capture of the faulted write closes after the FAULT record, unless that took its position (R84, R208). -/
theorem JournalLaw.faultWrite (h : JournalLaw [] s) (e : WriteEntry) : JournalLaw [] (faultWrite e s) := by
  have left : JournalLaw [] (faultMemory e s) := by rw [faultMemory_frame]; exact h.outside rfl
  have reported : JournalLaw [] (reportStoreFault e.target (faultMemory e s)) := left.writeRecord _
  have ended := (reported.endWrite true).closeRecord .failed (some .storeFault)
  exact ended.afterWrite

/-! ### The operation list -/

/-- The head leaves the list, its reference in hand (R22). -/
theorem JournalLaw.leaveList (h : JournalLaw x s) :
    JournalLaw ((s.ops.list.head?.bind fun e => e.record).toList ++ x) (leaveList s) := by
  refine h.moved rfl (List.Perm.subperm (List.perm_iff_count.2 fun p => ?_)) (.refl _)
  rw [recordRefs_eq, recordRefs_eq, leaveList_ops, leaveList_store]
  cases s.ops.list with
  | nil => simp
  | cons e rest =>
    simp only [List.head?_cons, Option.bind_some, List.tail_cons, opRefs_cons, List.count_append]
    omega

/-- The head changes in its state and in its fetch (R31, R41). -/
theorem JournalLaw.setHead (h : JournalLaw x s) {e f : OpEntry} {rest : List OpEntry} (list : s.ops.list = e :: rest)
    (record : f.record = e.record) : JournalLaw x (setHead f s) := by
  refine h.moved rfl ?_ (.refl _)
  rw [recordRefs_eq, recordRefs_eq, setHead_ops, setHead_store, list, List.tail_cons, opRefs_cons, opRefs_cons, record]

theorem JournalLaw.askFetch (h : JournalLaw x s) {e : OpEntry} {rest : List OpEntry} (list : s.ops.list = e :: rest)
    (l : Fin 256) (k : Fin 128) : JournalLaw x (askFetch e l k s) := by
  unfold Machine.askFetch
  split
  · refine JournalLaw.requestFetch ?_ _
    exact h.setHead list rfl
  · exact h.setHead list rfl

theorem JournalLaw.issueWaitingRecall (h : JournalLaw x s) : JournalLaw x (issueWaitingRecall s) := by
  unfold Machine.issueWaitingRecall
  split
  · exact h
  · rename_i e rest list
    split
    · exact h.ite fun _ => h.askFetch list _ _
    · exact h

/-- A pruned list and what was pruned make up the list (R28). -/
theorem pruneList_perm (n : ChanSet) (l : List OpEntry) : ((pruneList n l).2 ++ (pruneList n l).1).Perm l := by
  induction l with
  | nil => exact .refl _
  | cons e rest ih =>
    unfold pruneList
    dsimp only
    split
    · exact ih.cons e
    · exact List.perm_middle.trans (ih.cons e)

/-- The record of a new operation is OPEN, its reference in hand, unless its kind is filtered (R26, R205). -/
theorem JournalLaw.openRecord (h : JournalLaw [] s) (body : OpBody) (origin : Station) :
    JournalLaw (openRecord body origin s).2.toList (openRecord body origin s).1 := by
  unfold Machine.openRecord
  split
  · exact h
  · exact h.writeOpened rfl

/-- The new entry holds its reference, and the entries it prunes leave with theirs in hand (R26, R28). -/
theorem JournalLaw.listed {older kept pruned : List OpEntry} {e : OpEntry} (h : JournalLaw e.record.toList s)
    (list : s.ops.list = older) (parts : (pruned ++ kept).Perm older) :
    JournalLaw (opRefs pruned) { s with ops := { s.ops with list := kept ++ [e] } } := by
  refine h.moved rfl (List.Perm.subperm (List.perm_iff_count.2 fun p => ?_)) (.refl _)
  have count : List.count p (opRefs (pruned ++ kept)) = List.count p (opRefs older) := (parts.filterMap _).count_eq p
  rw [recordRefs_eq, recordRefs_eq, list]
  have last : opRefs (kept ++ [e]) = opRefs kept ++ e.record.toList := by
    rw [opRefs_append, opRefs_cons]; exact congrArg _ (List.append_nil _)
  simp only [last, opRefs_append, List.count_append] at count ⊢
  omega

theorem JournalLaw.appendOperation (h : JournalLaw [] s) (body : OpBody) (origin : Station) (aff : ChanSet) :
    JournalLaw [] (appendOperation body origin aff s) := by
  have opened := h.openRecord body origin
  unfold Machine.appendOperation
  dsimp only
  refine JournalLaw.closeAll ?_ .superseded
  rw [List.append_nil]
  split
  · exact JournalLaw.listed (e := ⟨_, _, _, _, _, _⟩) opened rfl (.refl _)
  · exact JournalLaw.listed (e := ⟨_, _, _, _, _, _⟩) opened rfl (pruneList_perm aff _)

theorem JournalLaw.considerFrame (h : JournalLaw [] s) (mark : Mark) (header : Byte) (m : Msg) :
    JournalLaw [] (considerFrame mark header m s) := by
  unfold Machine.considerFrame
  split
  · exact h
  · split
    · exact h
    · split
      · exact h.appendOperation _ _ _
      · exact h.reportFault _ _ _ _ _

/-! ### The plan, the capture and the failed RECALL -/

/-- The planned operation drives with its record, or closes it (R36). -/
theorem JournalLaw.becomeDriving {e : OpEntry} (h : JournalLaw (e.record.toList ++ x) s) (free : s.ops.driving = none) :
    JournalLaw x (becomeDriving e s) := by
  unfold Machine.becomeDriving
  dsimp only
  split
  · refine ⟨h.inTurn.update _ _, Journal.Opens.update ?_ _ fun _ => rfl, h.distinct⟩
    refine h.opens.subperm (List.Perm.subperm (List.perm_iff_count.2 fun p => ?_))
    rw [recordRefs_eq, recordRefs_eq, free]
    simp only [drivingRef, Option.bind_some, Option.bind_none, Option.toList_none, List.count_append, List.count_nil]
    omega
  · exact h.closeRecord .closed none

/-- The head's plan closes the operation that was DRIVING, and its own record when nothing is outstanding (R34–R36). -/
theorem JournalLaw.plan (h : JournalLaw [] s) {e : OpEntry} {rest : List OpEntry} (list : s.ops.list = e :: rest)
    (target : Chan → Bool) : JournalLaw [] (plan e target s) := by
  have left := h.leaveList
  rw [list] at left
  have treated : JournalLaw (e.record.toList ++ []) (planTreated e target s) :=
    left.outside (by simp [planTreated])
  rw [plan_eq_becomeDriving]
  exact (treated.closeDriving .superseded).becomeDriving rfl

/-- The head's capture goes with its reference into the write queue, or waits in STORING (R40–R42). -/
theorem JournalLaw.takeCapture (h : JournalLaw [] s) {e : OpEntry} {rest : List OpEntry} (list : s.ops.list = e :: rest)
    (l : Fin 256) (k : Fin 128) : JournalLaw [] (takeCapture e l k s) := by
  unfold Machine.takeCapture
  split
  · rename_i u entry
    unfold Machine.enterWrite at entry
    split at entry
    · cases entry
    · rename_i q hq
      cases entry
      have left := h.leaveList
      rw [list] at left
      exact left.entered hq
  · exact h.setHead list rfl

theorem JournalLaw.takeUp (h : JournalLaw [] s) {e : OpEntry} {rest : List OpEntry} (list : s.ops.list = e :: rest) :
    JournalLaw [] (takeUp e s) := by
  unfold Machine.takeUp
  split
  · exact h.askFetch list _ _
  · exact h.takeCapture list _ _
  · exact h.plan list _

/-- The FAULT record comes first; the head's record, unless that took its position, closes FAILED (R32, R208). -/
theorem JournalLaw.failRecall (h : JournalLaw [] s) (l : Fin 256) (k : Fin 128) : JournalLaw [] (failRecall l k s) :=
  (h.reportFault .checkFail (byteOf l.val) (byteOf k.val) 0 0).leaveList.closeRecord .failed (some .checkFail)

theorem JournalLaw.deliverFetch (h : JournalLaw [] s) (req : FetchReq) (bytes : List Byte) :
    JournalLaw [] (deliverFetch req bytes s) := by
  unfold Machine.deliverFetch recallOutcome
  split
  · split
    · exact h
    · rename_i e rest list
      refine h.ite fun _ => ?_
      split
      · exact h.plan list _
      · exact h.plan list _
      · exact h.failRecall _ _
  · exact h.outside rfl
  · exact h.outside rfl

end Sys2Proof.Machine
end

section
/-! PROOF. Channels, drive, crescendo, pistons, the link, deliveries, starts and the service port keep the law of the
journal: they write FAULT records, count and close, list operations and enter writes, and change nothing else of it. -/

namespace Sys2Proof.Machine

variable {s : State}

/-! ### Hand-overs, channels and the drive -/

theorem JournalLaw.handOver (h : JournalLaw [] s) (f : TxFrame) : JournalLaw [] (handOver f s) := by
  unfold Machine.handOver
  refine h.ite fun _ => ?_
  split
  · exact h.outside rfl
  · exact h.reportFault _ _ _ _ _

/-- A queued move that a hand move removes is counted as yielded, with the closing check (R7). -/
theorem JournalLaw.handMove (h : JournalLaw [] s) (c : Chan) (on : Bool) : JournalLaw [] (handMove c on s) := by
  rw [handMove_eq]
  refine JournalLaw.handOver ?_ _
  by_cases queued : s.channels[c].drive = .queued
  · have removed : JournalLaw []
        (removeMove c (setChannel c { s.channels[c].follow on with drive := .idle } s)) := h.outside rfl
    rw [movedByHand_queued queued]
    exact (removed.countDriving _).closingCheck.outside rfl
  · rw [movedByHand_idle queued]
    exact h.outside rfl

theorem JournalLaw.litPress (h : JournalLaw [] s) (c : Chan) : JournalLaw [] (litPress c s) := by
  unfold Machine.litPress
  refine JournalLaw.handOver ?_ _
  exact h.outside rfl

theorem JournalLaw.debouncedChange (h : JournalLaw [] s) (c : Chan) (on : Bool) :
    JournalLaw [] (debouncedChange c on s) := by
  unfold Machine.debouncedChange workingChange movedChange
  dsimp only
  split
  · exact h.outside rfl
  · exact h.outside rfl
  · split
    · exact h.outside rfl
    · split
      · exact h.handMove c on
      · exact h.handMove c on
      · exact h.outside rfl
    · split
      · exact h.litPress c
      · exact h.outside rfl

theorem JournalLaw.verifyMove (h : JournalLaw [] s) (c : Chan) (dir : Bool) (a : Attempt) :
    JournalLaw [] (verifyMove c dir a s) := by
  unfold Machine.verifyMove verifyMatch verifyRetry verifyFresh stuckVerdict
  dsimp only
  split
  · refine JournalLaw.closingCheck (JournalLaw.countDriving ?_ _)
    exact h.outside rfl
  · split
    · split
      · refine JournalLaw.countDriving ?_ _
        exact h.outside rfl
      · refine JournalLaw.closingCheck (JournalLaw.reportFault (JournalLaw.countDriving ?_ _) _ _ _ _ _)
        exact h.outside rfl
    · exact h.outside rfl

theorem JournalLaw.restoreSupply (h : JournalLaw [] s) : JournalLaw [] (restoreSupply s) := by
  unfold Machine.restoreSupply
  refine JournalLaw.closingCheck (JournalLaw.reportFault (JournalLaw.countDone ?_ _) _ _ _ _ _)
  exact h.outside rfl

/-! ### The crescendo shoe and the pistons -/

theorem JournalLaw.sendStage (h : JournalLaw [] s) : JournalLaw [] (sendStage s) := by
  refine JournalLaw.handOver ?_ _
  exact h.outside rfl

theorem JournalLaw.originationCheck (h : JournalLaw [] s) : JournalLaw [] (originationCheck s) :=
  h.ite fun _ => h.sendStage

theorem JournalLaw.takeSample (h : JournalLaw [] s) (r : Fin 1024) : JournalLaw [] (takeSample r s) := by
  unfold Machine.takeSample stageUpdate
  dsimp only
  split
  · exact h.outside rfl
  · split
    · refine JournalLaw.originationCheck ?_
      exact h.outside rfl
    · exact h.outside rfl

theorem JournalLaw.endInterval (h : JournalLaw [] s) : JournalLaw [] (endInterval s) := by
  unfold Machine.endInterval
  split
  · exact h.sendStage
  · exact h.outside rfl

theorem JournalLaw.calibrationPress (h : JournalLaw [] s) : JournalLaw [] (calibrationPress s) := by
  unfold Machine.calibrationPress acceptCalibration
  split
  · exact h
  · exact h.outside rfl
  · split
    · refine JournalLaw.writeCalibration ?_
      exact h.outside rfl
    · refine JournalLaw.reportFault ?_ _ _ _ _ _
      exact h.outside rfl

theorem JournalLaw.actStep (h : JournalLaw [] s) (function : Byte) (st : SeqStep) :
    JournalLaw [] (actStep function st s) := by
  unfold Machine.actStep sequenceEnd
  dsimp only
  split
  · exact h.handOver _
  · exact h
  · split
    · exact h.outside rfl
    · refine JournalLaw.reportFault ?_ _ _ _ _ _
      exact h.outside rfl

theorem JournalLaw.pressTutti (h : JournalLaw [] s) : JournalLaw [] (pressTutti s) := by
  unfold Machine.pressTutti
  split
  · exact h.handOver _
  · split
    · exact h.outside rfl
    · exact h.handOver _

theorem JournalLaw.pressAct (h : JournalLaw [] s) (fn : PistonFn) : JournalLaw [] (pressAct fn s) := by
  match fn with
  | .nothing => exact h
  | .recall slot =>
    show JournalLaw [] (pressRecall slot s)
    unfold pressRecall
    split <;> exact h.handOver _
  | .next => exact h.actStep _ _
  | .prev => exact h.actStep _ _
  | .set => exact h.handOver _
  | .cancelAll => exact h.handOver _
  | .cancelDiv d => exact h.handOver _
  | .toggle stop => exact h.handOver _
  | .tutti => exact h.pressTutti
  | .levelUp => exact h.ite fun _ => h.handOver _
  | .levelDown => exact h.ite fun _ => h.handOver _
  | .lock => exact h.ite fun _ => h.setLock _ _
  | .program k =>
    refine h.ite fun _ => h.ite fun _ => JournalLaw.originationCheck ?_
    exact h.outside rfl
  | .calibrate => exact h.ite fun _ => h.calibrationPress

theorem JournalLaw.takePress (h : JournalLaw [] s) (i : Fin 32) : JournalLaw [] (takePress i s) := by
  unfold Machine.takePress
  split
  · exact h.pressAct _
  · exact h.reportFault _ _ _ _ _
  · exact h

/-! ### The link and deliveries -/

theorem JournalLaw.countAttempt (h : JournalLaw [] s) (cause : AttemptCause) :
    JournalLaw [] (countAttempt cause s) := by
  unfold Machine.countAttempt
  split
  · exact h
  · split
    · exact h.outside rfl
    · refine JournalLaw.reportFault ?_ _ _ _ _ _
      exact h.outside rfl

theorem JournalLaw.takeStall (h : JournalLaw [] s) (header : Option Byte) : JournalLaw [] (takeStall header s) := by
  have seeking : JournalLaw [] (setLink { s.link.leaveFrame .seeking with stall := 0, stalled := true } s) :=
    h.outside rfl
  exact (seeking.ite fun _ => seeking.countAttempt .stall).reportFault _ _ _ _ _

theorem JournalLaw.toSequencer (h : JournalLaw [] s) (mark : Mark) (header : Byte) (m : Msg) :
    JournalLaw [] (toSequencer mark header m s) := h.ite fun _ => h.considerFrame _ _ _

theorem JournalLaw.effect (h : JournalLaw [] s) (mark : Mark) (header : Byte) (m : Msg) :
    JournalLaw [] (effect mark header m s) := by
  have place (v : View) (n : Msg) : JournalLaw [] (Machine.toSequencer mark header n (setView v s)) := by
    refine JournalLaw.toSequencer ?_ _ _ _
    exact h.outside rfl
  match m with
  | .cancel scope => exact h.toSequencer _ _ _
  | .recall l k => exact h.ite fun _ => place _ _
  | .capture l k => exact h.ite fun _ => place _ _
  | .handset on stop => exact h.toSequencer _ _ _
  | .toggle a stop => exact h.toSequencer _ _ _
  | .tutti on => exact h.outside (by simp [Machine.effect, effectTutti])
  | .stage p st => exact h.outside (by simp [Machine.effect, effectStage])
  | .setter armed => exact h.outside (by simp [Machine.effect, effectSetter_eq])
  | .level l => exact h.outside rfl
  | .announce lr sr fr l => exact h.outside rfl

theorem JournalLaw.greet (h : JournalLaw [] s) (isNew : Bool) : JournalLaw [] (greet isNew s) := by
  unfold Machine.greet newStationActions
  dsimp only
  refine h.ite fun _ => ?_
  have announced := h.handOver .announce
  have staged := announced.ite (p := s.params.shoeRole = true) fun _ => announced.sendStage
  exact staged.ite fun _ => staged.handOver _

theorem JournalLaw.checkDuplicate (h : JournalLaw [] s) (mark : Mark) (header : Byte) :
    JournalLaw [] (checkDuplicate mark header s) := by
  refine h.ite fun _ => ?_
  have reported := h.reportFault .duplicateId 0 header 0 0
  unfold detectDuplicate
  dsimp only
  split
  · exact reported.outside rfl
  · exact reported.outside rfl
  · exact h

theorem JournalLaw.acceptFrame (h : JournalLaw [] s) (kind : Nat) : JournalLaw [] (acceptFrame kind s) := by
  unfold Machine.acceptFrame
  split
  · rename_i mark header m _
    have heard : JournalLaw [] (judgeReady (hear mark (headerOrigin header) m (stopLink mark s))) := h.outside rfl
    exact ((heard.effect mark header m).greet _).checkDuplicate mark header
  · exact h

/-! ### Resets and start-up -/

/-- After a cold reset the journal is empty, and nothing refers to it (R213). -/
theorem coldReset_journalLaw (s : State) : JournalLaw [] (coldReset s) where
  inTurn := by
    refine ⟨Nat.zero_le 32, fun _ => rfl, fun i => ?_⟩
    show (Vector.replicate 32 (none : Option Record))[i.val].isSome = _
    rw [Vector.getElem_replicate]; rfl
  opens := ⟨List.nodup_nil, fun _ h => nomatch h⟩
  distinct := List.nodup_nil

/-- A station restarts with its journal and without references (R207, R213). -/
theorem JournalLaw.warmRestart (h : JournalLaw [] s) : JournalLaw [] (warmRestart s) where
  inTurn := by
    show (dropOperations s).journal.InTurn
    rw [dropOperations_journal]
    exact h.inTurn.closeEach _ _
  opens := ⟨List.nodup_nil, fun _ h => nomatch h⟩
  distinct := List.nodup_nil

theorem JournalLaw.reportClamped (h : JournalLaw [] s) (ns : List (Nat × Nat)) :
    JournalLaw [] (reportClamped ns s) := by
  induction ns generalizing s with
  | nil => exact h
  | cons n ns ih => exact ih (h.reportFault _ _ _ _ _)

theorem JournalLaw.loadLocks (h : JournalLaw [] s) : JournalLaw [] (loadLocks s) := by
  refine h.ite fun _ => ?_
  exact h.outside rfl

theorem JournalLaw.loadCalibration (h : JournalLaw [] s) : JournalLaw [] (loadCalibration s) := by
  refine h.ite fun _ => ?_
  dsimp only
  split
  · refine JournalLaw.reportFault ?_ _ _ _ _ _
    exact h.outside rfl
  · exact h.outside rfl

theorem JournalLaw.load (h : JournalLaw [] s) : JournalLaw [] (load s) := by
  by_cases safe : s.start.safeStrap = true ∨ judgeImage (readImage s) ≠ .passed
  · rw [load_safe safe]
    exact h.outside rfl
  · rw [not_or, Bool.not_eq_true, not_not] at safe
    rw [load_passed safe.1 safe.2]
    have passed : JournalLaw [] (imagePassed s) := h.outside rfl
    have image : JournalLaw [] (loadImage (readImage s) (imagePassed s)) := (passed.reportClamped _).outside rfl
    exact image.loadLocks.loadCalibration

theorem JournalLaw.announceRun (h : JournalLaw [] s) : JournalLaw [] (announceRun s) := by
  refine h.ite fun _ => ?_
  have announced := h.handOver .announce
  exact (announced.ite fun _ => announced.originationCheck).outside rfl

theorem JournalLaw.complete (h : JournalLaw [] s) : JournalLaw [] (complete s) := by
  have entered : JournalLaw [] (enterMode (firstShift (firstRegistered s))) :=
    h.outside (by unfold enterMode firstShift firstRegistered; rfl)
  rw [complete_eq]
  exact entered.announceRun

end Sys2Proof.Machine
end

section
/-! PROOF. The service port, time and the commands one by one keep the law of the journal; O8 (R201, R204, R206,
R208). -/

namespace Sys2Proof.Machine

variable {s : State}

/-! ### The service port -/

theorem JournalLaw.unlessStarting {t : State} (h : JournalLaw [] s) (taken : JournalLaw [] t) :
    JournalLaw [] (unlessStarting s t) := by
  unfold Machine.unlessStarting
  split
  · exact h.outside rfl
  · exact taken

theorem JournalLaw.answerWrite (h : JournalLaw [] s) {o : Option State} (entered : ∀ u, o = some u → JournalLaw [] u) :
    JournalLaw [] (answerWrite o s) := by
  unfold Machine.answerWrite
  split
  · rename_i u; exact (entered u rfl).outside rfl
  · exact h.outside rfl

theorem JournalLaw.takeRead (h : JournalLaw [] s) (req : FetchReq) : JournalLaw [] (takeRead req s) := by
  unfold Machine.takeRead
  split
  · exact h.outside rfl
  · refine JournalLaw.requestFetch ?_ _
    exact h.outside rfl

theorem JournalLaw.takeLock (h : JournalLaw [] s) (l : Fin 256) (lock : Bool) : JournalLaw [] (takeLock l lock s) := by
  unfold Machine.takeLock
  split
  · exact (h.setLock l lock).outside rfl
  · exact h.outside rfl

theorem JournalLaw.takeRestart (h : JournalLaw [] s) : JournalLaw [] (takeRestart s) := by
  unfold Machine.takeRestart
  split
  · exact h.warmRestart
  · exact h.outside rfl

theorem JournalLaw.takeCommand (h : JournalLaw [] s) (c : ServiceCmd) : JournalLaw [] (takeCommand c s) := by
  cases c with
  | ident => exact h.outside rfl
  | status g => exact h.outside rfl
  | channels => exact h.unlessStarting (h.outside rfl)
  | journal k => exact h.outside rfl
  | slotRead l k => exact h.unlessStarting (h.takeRead _)
  | slotWrite l k data => exact h.unlessStarting (h.answerWrite fun _ entry => h.enterWrite entry)
  | imageRead off len => exact h.unlessStarting (h.takeRead _)
  | imageWrite off data => exact h.unlessStarting (h.answerWrite fun _ entry => h.enterImage entry)
  | lock l st => exact h.unlessStarting (h.takeLock l st)
  | restart => exact h.unlessStarting h.takeRestart

theorem JournalLaw.endCommand (h : JournalLaw [] s) (spoilt : Bool) (bytes : List Byte) :
    JournalLaw [] (endCommand spoilt bytes s) := by
  unfold Machine.endCommand
  dsimp only
  split
  · refine JournalLaw.takeCommand ?_ _
    exact h.outside rfl
  · exact h.outside rfl

theorem JournalLaw.serviceCommand {t : State} (h : JournalLaw [] s) {body : List Byte}
    (e : serviceCommand body s = .next t) : JournalLaw [] t := by
  cases e
  exact h.ite fun _ => h.endCommand false _

/-! ### Time -/

theorem LinkOnly.journalLaw {t : State} (k : LinkOnly s t) (h : JournalLaw [] s) : JournalLaw [] t := by
  obtain ⟨p, l, rfl⟩ := k
  exact h.outside rfl

theorem JournalLaw.linkUs (h : JournalLaw [] s) : JournalLaw [] (linkUs s) := by
  unfold Machine.linkUs
  split
  · exact h
  · exact (seekingUs_linkOnly.journalLaw h).outside rfl
  · exact (idleUs_linkOnly.journalLaw h).outside rfl
  · exact (frameUs_linkOnly.journalLaw h).outside rfl
  · exact (frameUs_linkOnly.journalLaw h).outside rfl

theorem JournalLaw.usStep (h : JournalLaw [] s) : JournalLaw [] (usStep s) := by
  have shifted (u : State) (hu : JournalLaw [] u) : JournalLaw [] (relayUs u) := by
    unfold relayUs
    split
    · exact hu
    · exact hu.outside rfl
  have linked := shifted _ h.linkUs
  exact linked.ite fun _ => linked.outside rfl

theorem JournalLaw.samplersTick (h : JournalLaw [] s) : JournalLaw [] (samplersTick s) := by
  have supply : JournalLaw [] (supplyTick s) := by
    unfold supplyTick
    split
    case h_6 => exact h
    all_goals exact h.outside rfl
  have shoe (u : State) (hu : JournalLaw [] u) : JournalLaw [] (shoeTick u) := by
    unfold shoeTick
    split <;> exact hu.outside rfl
  unfold Machine.samplersTick
  dsimp only
  have contacts := h.ite (p := sampling s = true) (t := contactsTick (supplyTick s)) fun _ => supply.outside rfl
  have pistons := contacts.ite (p := pistonsSampled s = true) (t := pistonsTick _) fun _ => contacts.outside rfl
  exact pistons.ite fun _ => shoe _ pistons

theorem JournalLaw.storeTick (h : JournalLaw [] s) : JournalLaw [] (storeTick s) := by
  unfold Machine.storeTick
  split
  · exact h
  · exact h.outside rfl

theorem JournalLaw.msTick (h : JournalLaw [] s) : JournalLaw [] (msTick s) := by
  have stamped : JournalLaw [] { s with journal := { s.journal with timeTag := s.journal.timeTag + 1 } } :=
    ⟨h.inTurn, h.opens, h.distinct⟩
  have timers (u : State) (hu : JournalLaw [] u) : JournalLaw [] (timersTick u) := hu.outside rfl
  have stall (u : State) (hu : JournalLaw [] u) : JournalLaw [] (stallTick u) := hu.ite fun _ => hu.outside rfl
  have drives (u : State) (hu : JournalLaw [] u) : JournalLaw [] (drivesTick u) := hu.outside rfl
  have start (u : State) (hu : JournalLaw [] u) : JournalLaw [] (startTick u) := hu.outside rfl
  exact start _ (drives _ (stall _ (timers _ stamped)).samplersTick).storeTick

theorem JournalLaw.idle (h : JournalLaw [] s) : JournalLaw [] (idle s) := by
  unfold Machine.idle clockStep
  dsimp only
  split
  · exact h.outside rfl
  · split
    · refine JournalLaw.usStep ?_
      exact h.outside rfl
    · refine JournalLaw.msTick ?_
      exact h.outside rfl

/-! ### The commands -/

theorem JournalLaw.execSupplyFirstSample {t : State} (h : JournalLaw [] s) (high : Bool)
    (e : execSupplyFirstSample high s = .next t) : JournalLaw [] t := by
  cases e
  refine h.ite fun _ => ?_
  split
  · exact h.outside rfl
  · refine JournalLaw.reportFault ?_ _ _ _ _ _
    exact h.outside rfl

theorem JournalLaw.execSupplyLoss {t : State} (h : JournalLaw [] s) (e : execSupplyLoss s = .next t) :
    JournalLaw [] t := by
  cases e
  have held : JournalLaw [] (setSupply .lost none (holdMoves s)) := h.outside (by unfold setSupply holdMoves; rfl)
  exact h.ite fun _ => held.reportFault _ _ _ _ _

theorem JournalLaw.execPulseStart {t : State} (h : JournalLaw [] s) (e : execPulseStart s = .next t) :
    JournalLaw [] t := by
  cases e
  split
  · exact h
  · exact h.ite fun _ => h.outside rfl

theorem JournalLaw.execPulseEnd {t : State} (h : JournalLaw [] s) (c : Chan) (e : execPulseEnd c s = .next t) :
    JournalLaw [] t := by
  cases e
  split
  · exact h.outside rfl
  · exact h

theorem JournalLaw.execVerify {t : State} (h : JournalLaw [] s) (c : Chan) (e : execVerify c s = .next t) :
    JournalLaw [] t := by
  cases e
  split
  · exact h.verifyMove c _ _
  · exact h

theorem JournalLaw.execTakeUpHead {t : State} (h : JournalLaw [] s) (e : execTakeUpHead s = .next t) :
    JournalLaw [] t := by
  cases e
  split
  · exact h
  · rename_i list
    exact h.ite fun _ => h.takeUp list

theorem JournalLaw.execStoringCaptureRetake {t : State} (h : JournalLaw [] s)
    (e : execStoringCaptureRetake s = .next t) : JournalLaw [] t := by
  cases e
  split
  · exact h
  · rename_i list
    split
    · exact h.takeCapture list _ _
    · exact h

theorem JournalLaw.execFetchResult {t : State} (h : JournalLaw [] s) (e : execFetchResult s = .next t) :
    JournalLaw [] t := by
  cases e
  split
  · exact h
  · split
    · exact h
    · rename_i f _ _ bytes _
      have freed : JournalLaw [] (fetchFreed s) := h.outside rfl
      exact (freed.deliverFetch f.req bytes).issueWaitingRecall

theorem JournalLaw.execWriteComplete {t : State} (h : JournalLaw [] s) (e : exec .writeComplete s = .next t) :
    JournalLaw [] t := by
  rcases exec_writeComplete_cases e with rfl | ⟨head, rest, hq, -, rfl⟩
  · exact h
  · exact h.completeWrite (by rw [hq]; rfl)

theorem JournalLaw.execStoreFault {t : State} (h : JournalLaw [] s) (e : exec .storeFault s = .next t) :
    JournalLaw [] t := by
  rcases exec_storeFault_cases e with rfl | ⟨head, -, -, -, rfl⟩
  · exact h
  · exact h.faultWrite head

theorem JournalLaw.execFrameStart {t : State} (h : JournalLaw [] s) (e : execFrameStart s = .next t) :
    JournalLaw [] t := by
  cases e
  refine h.ite fun _ => ?_
  split
  · exact h.outside rfl
  · exact h.outside rfl
  · exact h

theorem JournalLaw.execFrameReceived {t : State} (h : JournalLaw [] s) (f : WireFrame)
    (e : execFrameReceived f s = .next t) : JournalLaw [] t := by
  cases e
  refine h.ite fun _ => ?_
  split
  · exact h.ite fun _ => h.outside rfl
  · exact h.outside rfl
  · exact h

theorem JournalLaw.execFrameNotAccepted {t : State} (h : JournalLaw [] s) (cause : StopCause)
    (e : execFrameNotAccepted cause s = .next t) : JournalLaw [] t := by
  have idle : JournalLaw [] (setLink (s.link.leaveFrame .idle) s) := h.outside rfl
  cases e
  split
  · exact h
  · split
    · exact idle.ite fun _ => idle.countAttempt _
    · refine h.ite fun _ => ?_
      unfold endVetoed
      split
      · refine JournalLaw.reportFault ?_ _ _ _ _ _
        exact h.outside rfl
      · exact idle

theorem JournalLaw.execBrokenFrame {t : State} (h : JournalLaw [] s) (e : execBrokenFrame s = .next t) :
    JournalLaw [] t := by
  have seeking : JournalLaw [] (setLink (s.link.leaveFrame .seeking) s) := h.outside rfl
  cases e
  split
  · exact seeking
  · exact seeking.countAttempt _
  · exact h

theorem JournalLaw.execLinkStall {t : State} (h : JournalLaw [] s) (header : Option Byte)
    (e : execLinkStall header s = .next t) : JournalLaw [] t := by
  cases e
  split
  · exact h
  · exact h.takeStall header

theorem JournalLaw.execGapTimerExpiry {t : State} (h : JournalLaw [] s) (e : execGapTimerExpiry s = .next t) :
    JournalLaw [] t := by
  cases e
  split
  · exact h.endCommand _ _
  · exact h.outside rfl
  · exact h

theorem JournalLaw.execStopWithoutDelivery {t : State} (h : JournalLaw [] s)
    (e : execStopWithoutDelivery s = .next t) : JournalLaw [] t := by
  cases e
  split
  · exact h
  · exact h.ite fun _ => h.outside rfl

/-- Every command keeps the law of the journal. -/
theorem exec_journalLaw {t : State} (h : JournalLaw [] s) (c : Instr) (e : exec c s = .next t) : JournalLaw [] t := by
  cases c with
  | coldReset => cases e; exact coldReset_journalLaw s
  | loadEvent => cases e; exact h.ite fun _ => h.load
  | startUpCompletion => cases e; exact h.ite fun _ => h.complete
  | debouncedChange c on => cases e; exact h.ite fun _ => h.debouncedChange c on
  | shiftEnd => cases e; exact h.outside rfl
  | pistonPress i =>
    cases e
    have input : JournalLaw [] (setPiston i true s) := h.outside rfl
    exact h.ite fun _ => input.takePress i
  | pistonRelease i =>
    cases e
    have input : JournalLaw [] (setPiston i false s) := h.outside rfl
    exact h.ite fun _ => input.ite fun _ => input.handOver _
  | sequenceEndTimerExpiry => cases e; exact h.ite fun _ => h.outside rfl
  | sampleEvent r => cases e; exact h.ite fun _ => h.takeSample r
  | intervalTimerExpiry => cases e; exact h.ite fun _ => h.endInterval
  | supplyFirstSample high => exact h.execSupplyFirstSample high e
  | supplyLoss => exact h.execSupplyLoss e
  | supplyWaitStart => cases e; exact h.ite fun _ => h.outside rfl
  | supplyWaitAbandon => cases e; exact h.ite fun _ => h.outside rfl
  | restore => cases e; exact h.ite fun _ => h.restoreSupply
  | pulseStart => exact h.execPulseStart e
  | pulseEnd c => exact h.execPulseEnd c e
  | verify c => exact h.execVerify c e
  | takeUpHead => exact h.execTakeUpHead e
  | storingCaptureRetake => exact h.execStoringCaptureRetake e
  | fetchServe => cases e; exact h.ite fun _ => h.serveFetch
  | fetchResult => exact h.execFetchResult e
  | writeIssue => cases e; exact h.issueWrite
  | writeComplete => exact h.execWriteComplete e
  | storeFault => exact h.execStoreFault e
  | synchronise => cases e; exact h.ite fun _ => h.outside rfl
  | disturbance => cases e; exact h.ite fun _ => h.outside rfl
  | frameStart => exact h.execFrameStart e
  | frameReceived f => exact h.execFrameReceived f e
  | stretchExpiry => cases e; exact h.ite fun _ => h.outside rfl
  | frameNotAccepted cause => exact h.execFrameNotAccepted cause e
  | linkFaultTimerExpiry => cases e; exact h.ite fun _ => h.outside rfl
  | brokenFrame => exact h.execBrokenFrame e
  | linkStall header => exact h.execLinkStall header e
  | cancelFrame => cases e; exact h.acceptFrame 0
  | recallFrame => cases e; exact h.acceptFrame 1
  | captureFrame => cases e; exact h.acceptFrame 2
  | handsetFrame => cases e; exact h.acceptFrame 3
  | toggleFrame => cases e; exact h.acceptFrame 4
  | tuttiFrame => cases e; exact h.acceptFrame 5
  | stageFrame => cases e; exact h.acceptFrame 6
  | setterFrame => cases e; exact h.acceptFrame 7
  | levelFrame => cases e; exact h.acceptFrame 8
  | announceFrame => cases e; exact h.acceptFrame 9
  | serviceByteArrival b framed => cases e; exact h.outside rfl
  | gapTimerExpiry => exact h.execGapTimerExpiry e
  | ident => exact h.serviceCommand e
  | status group => exact h.serviceCommand e
  | channels => exact h.serviceCommand e
  | journal k => exact h.serviceCommand e
  | slotRead level slot => exact h.serviceCommand e
  | slotWrite level slot data => exact h.serviceCommand e
  | imageRead offset length => exact h.serviceCommand e
  | imageWrite offset data => exact h.serviceCommand e
  | serviceLock level state => exact h.serviceCommand e
  | restart => exact h.serviceCommand e
  | replyEnd => cases e; exact h.ite fun _ => h.outside rfl
  | flashTimerExpiry f => cases e; cases f <;> exact h.outside rfl
  | startReceiving => cases e; exact h.ite fun _ => h.outside rfl
  | arbitrationLost => cases e; exact h.ite fun _ => h.outside rfl
  | stopWithoutDelivery => exact h.execStopWithoutDelivery e

/-- The law of the journal with nothing in hand is the statement's two, with the distinct targets that the one write in
flight gives (R80). -/
theorem journalLaw_iff (s : State) :
    JournalLaw [] s ↔ JournalInTurn s ∧ ReferencesOpen s ∧ (waitingTargets s.store.queue).Nodup :=
  ⟨fun ⟨inTurn, opens, distinct⟩ => ⟨inTurn, opens, distinct⟩,
    fun ⟨inTurn, opens, distinct⟩ => ⟨inTurn, opens, distinct⟩⟩

/-- Settles O8: a step runs the front command, or the station goes on by itself; either keeps the law of the journal. -/
theorem stepKeepsJournalReferences : Obligations.StepKeepsJournalReferences := by
  unfold Obligations.StepKeepsJournalReferences
  intro s t inTurn opens ⟨_, _, _, distinct, _⟩ e
  have h : JournalLaw [] s := (journalLaw_iff s).2 ⟨inTurn, opens, distinct⟩
  have kept : JournalLaw [] t := by
    unfold step at e
    split at e
    · rename_i c rest _
      exact exec_journalLaw (s := { s with pending := rest }) (h.outside rfl) c e
    · cases e
      exact h.idle
  exact ⟨kept.inTurn, kept.opens⟩

end Sys2Proof.Machine
end

section
/-! PROOF. RESTART: guarded while a write or a mark waits, and warm (R207, R213, R224, R230, R234). -/

namespace Sys2Proof.Machine

variable {s : State}

/-- No deferred mark is set (R81). -/
theorem anyMark_iff (s : State) : anyMark s = false ↔ s.store.calMark = false ∧ s.store.lockMarks = 0 := by
  simp [anyMark]

/-- A RESTART given whole is taken, refused in STARTING (R230). -/
theorem exec_restart (free : PortFree [0x0A] s) :
    exec .restart s = .next (unlessStarting (ended s) (takeRestart (ended s))) :=
  serviceCommand_taken (code := 0x0A) free rfl

/-- The reset values beside the journal of a restart, whatever the journal (R224). -/
theorem warmRestart_eq (s : State) :
    warmRestart s = { State.reset with
      pending := s.pending
      pins := s.pins
      memory := s.memory
      start := Start.reset s.pins.straps s.pins.safeStrap
      relay := Relay.reset s.relay.pipes
      port := { Port.reset with state := .replying, reply := replyBytes .ok [] }
      journal := (dropOperations s).journal
      time := s.time
      torn := s.torn } := by
  have frame : dropOperations s = { s with ops := (dropOperations s).ops, journal := (dropOperations s).journal } := by
    unfold dropOperations
    rw [closeDriving_frame, closeAll_frame]
  unfold warmRestart resetBlocks
  generalize dropOperations s = u at frame ⊢
  rw [frame]

/-- Settles O60: refused by mode, queue and marks; else the reset values, with the operations' records closed. -/
theorem restartIsWarmAndGuarded : Obligations.RestartIsWarmAndGuarded := by
  unfold Obligations.RestartIsWarmAndGuarded
  intro s free
  have restarted : (warmRestart (ended s)).journal = s.journal.closeEach .dropped s.ops.refs := by
    rw [warmRestart_eq]
    exact dropOperations_journal (ended s)
  rw [exec_restart free]
  refine ⟨fun refused => congrArg _ ?_, fun started queue cal locks => ⟨warmRestart (ended s), ?_, ?_, ?_, ?_⟩⟩
  · by_cases starting : s.view.mode = .starting
    · exact unlessStarting_starting starting
    · rw [unlessStarting_started starting, takeRestart, if_neg]
      · rfl
      · rintro ⟨queue, marks⟩
        obtain ⟨cal, locks⟩ := (anyMark_iff _).1 marks
        rcases refused with starts | waits | marked | marked
        · exact starting starts
        · exact waits queue
        · exact nomatch marked.symm.trans cal
        · exact marked locks
  · rw [unlessStarting_started started, takeRestart, if_pos ⟨queue, (anyMark_iff _).2 ⟨cal, locks⟩⟩]
  · have records : (warmRestart (ended s)).journal
        = { s.journal with records := (warmRestart (ended s)).journal.records } := by
      rw [restarted]
      exact s.journal.closeEach_frame .dropped s.ops.refs
    rw [← records, warmRestart_eq]
    rfl
  · intro p r held opened referred
    rw [restarted]
    exact Journal.closeEach_at (by decide) (Sequencer.mem_refs.2 referred) held opened
  · intro p listed driving
    rw [restarted]
    refine Journal.closeEach_other _ _ fun named => ?_
    rcases Sequencer.mem_refs.1 named with ⟨e, he, same⟩ | ⟨d, hd, same⟩
    · exact listed e he same
    · exact driving d hd same

end Sys2Proof.Machine
end

section
/-! PROOF. The reports of the service line: IDENT, STATUS, CHANNELS and JOURNAL (R209, R211, R212, R228–R231). -/

namespace Sys2Proof.Machine

variable {s : State}

/-! ### Replies (R229) -/

/-- A reply is its status, its data and the byte that brings the sum to 00h (R229). -/
theorem replyBytes_sum (st : Status) (data : List Byte) : (replyBytes st data).foldl (· + ·) 0 = 0 :=
  withSum_sum (st.byte :: data)

theorem exec_ident (free : PortFree [0x01] s) : exec .ident s = .next (answered .ok (identData s) s) :=
  serviceCommand_taken (code := 0x01) free rfl

/-- The port's judgement is no part of a report. -/
theorem statusData_ended (group : Fin 6) (s : State) : statusData group (ended s) = statusData group s := by
  unfold statusData
  split <;> rfl

theorem exec_status {g : Byte} (free : PortFree [0x02, g] s) (group : Fin 6) (h : g.toNat = group.val) :
    exec (.status g) s = .next (answered .ok (statusData group s) s) := by
  refine (serviceCommand_taken (code := 0x02) (c := .status group) free ?_).trans ?_
  · exact (dif_pos (h ▸ group.isLt)).trans (by simp [h])
  · show Host.Outcome.next (answered .ok (statusData group (ended s)) s) = _
    rw [statusData_ended]

theorem exec_status_unknown {g : Byte} (free : PortFree [0x02, g] s) (h : 6 ≤ g.toNat) :
    exec (.status g) s = .next (answered .badcmd [] s) :=
  serviceCommand_refused (code := 0x02) free (dif_neg (Nat.not_lt.2 h))

theorem exec_channels (free : PortFree [0x03] s) : exec .channels s =
    .next (if s.view.mode = .starting then answered .busy [] s else answered .ok (channelsData s) s) :=
  serviceCommand_taken (code := 0x03) free rfl

theorem exec_journal {k : Byte} (free : PortFree [0x04, k] s) :
    exec (.journal k) s = .next (answered .ok (journalData k.toNat s) s) :=
  serviceCommand_taken (code := 0x04) free rfl

/-! ### Items (R231) -/

theorem toList_map_finRange {α β : Type} {n : Nat} (v : Vector α n) (f : α → β) :
    v.toList.map f = (List.finRange n).map fun i => f v[i] := by
  refine List.ext_getElem (by simp) fun i _ _ => ?_
  simp

/-- An absent value is sent as FFh, a present one as its byte. -/
theorem map_byteOf_getD {α : Type} (o : Option α) (f : α → Nat) :
    ((o.map f).map byteOf).getD 0xFF = (o.map fun x => byteOf (f x)).getD 0xFF := by
  rw [Option.map_map]; rfl

/-! ### The journal read back (R211) -/

/-- The record k back from the newest stands k + 1 positions before the next one (R211). -/
theorem journalPosition_eq {j : Journal} {k : Nat} {q : Fin 32} (small : k < 32)
    (h : (q.val + 1 + k) % 32 = j.next.val) : journalPosition j k = q := by
  have bound := q.isLt
  refine Fin.ext ?_
  show (j.next.val + 64 - 1 - k) % 32 = q.val
  omega

theorem journalData_record {k : Nat} {q : Fin 32} {r : Record} (small : k < 32) (held : k < s.journal.held)
    (h : (q.val + 1 + k) % 32 = s.journal.next.val) (stands : s.journal.records[q] = some r) :
    journalData k s = r.bytes := by
  obtain rfl := journalPosition_eq small h
  unfold journalData
  rw [if_pos ⟨small, held⟩, stands]

theorem journalData_noRecord {k : Nat} (h : 32 ≤ k ∨ s.journal.held ≤ k) : journalData k s = noRecordBytes :=
  if_neg (by omega)

/-! ### The bytes of a record (R212) -/

/-- A number below 65536 as two bytes, by division. -/
theorem natBytes_eq {n : Nat} (small : n < 65536) : natBytes n = [byteOf (n / 256), byteOf n] := by
  have value : (BitVec.ofNat 16 n).toNat = n := Nat.mod_eq_of_lt small
  unfold natBytes wordBytes
  rw [value]

/-- The code byte of a record: a FAULT's own code, else that of a FAILED operation (R202, R209). -/
theorem Record.codeByte_eq (r : Record) :
    r.codeByte = byteOf (match r.subject, r.outcome with
      | .fault c _ _ _ _, _ => c.value
      | _, some c => c.value
      | _, none => 0) := by
  obtain ⟨_, subject, _, _, outcome, _⟩ := r
  cases subject <;> cases outcome <;> rfl

/-- The four bytes of a record's subject, each number written out (R212). -/
theorem Subject.bytes_eq (x : Subject) : x.bytes = match x with
    | .recall l n => [byteOf l.val, byteOf n.val, 0, 0]
    | .capture l n => [byteOf l.val, byteOf n.val, 0, 0]
    | .cancel .console => [0xFF, 0, 0, 0]
    | .cancel (.division d) => [byteOf d.val, 0, 0, 0]
    | .toggle n => [byteOf (n.val / 256), byteOf n.val, 0, 0]
    | .mirror n => [byteOf (n.val / 256), byteOf n.val, 0, 0]
    | .fault _ p0 p1 p2 p3 => [p0, p1, p2, p3] := by
  have stop (n : Fin 1024) : natBytes n.val ++ [0, 0] = [byteOf (n.val / 256), byteOf n.val, 0, 0] := by
    rw [natBytes_eq (n.isLt.trans (by decide))]; rfl
  match x with
  | .recall l n => rfl
  | .capture l n => rfl
  | .cancel .console => rfl
  | .cancel (.division d) => rfl
  | .toggle n => exact stop n
  | .mirror n => exact stop n
  | .fault code p0 p1 p2 p3 => rfl

theorem Subject.bytes_length (x : Subject) : x.bytes.length = 4 := by cases x <;> rfl

theorem wordBytes_getD (t : Option Word) :
    wordBytes (t.getD 0) = match t with | none => [0, 0] | some t => wordBytes t := by
  cases t <;> rfl

theorem Record.bytes_length (r : Record) : r.bytes.length = 30 := by
  simp [Record.bytes, wordBytes, Subject.bytes_length]

/-! ### The reports -/

/-- The deferred marks set: those of the lock bytes, and that of the calibration (R81, R95). -/
theorem markCount_eq (s : State) :
    markCount s = ((List.finRange 32).filter (fun n => s.store.lockMarks.getLsbD n.val)).length
      + (if s.store.calMark then 1 else 0) := by
  unfold markCount
  cases s.store.calMark <;> rfl

/-- Settles O58: the commands by their parse, the reports item by item. -/
theorem reportsAnswerAsTabled : Obligations.ReportsAnswerAsTabled := by
  unfold Obligations.ReportsAnswerAsTabled
  intro s g k p v loaded applied ifLoaded optional modeAt lineAt supplyAt outcomeAt kindAt entryAt rateAt typeAt driveAt
  refine ⟨exec_ident, fun free => ⟨exec_status free, exec_status_unknown free⟩, exec_channels, exec_journal,
    fun st data => ⟨sumByte (st.byte :: data), rfl, replyBytes_sum st data, by cases st <;> rfl⟩,
    ?station, ?view, ?roster, ?operations, ?store, ?crescendo, ?channels,
    fun small held q r => journalData_record small held, journalData_noRecord, fun r => ?record⟩
  case station =>
    simp only [optional, map_byteOf_getD, statusData, statusStation, toList_map_finRange]
    rfl
  case view =>
    simp only [optional, map_byteOf_getD, statusData, statusView, item, v, p]
  case roster => rfl
  case operations =>
    simp only [optional, map_byteOf_getD, statusData, statusOperations]
    rfl
  case store =>
    simp only [optional, map_byteOf_getD, statusData, statusStore, markCount_eq]
    rfl
  case crescendo =>
    simp only [statusData, statusCrescendo, toList_map_finRange]
    cases s.cresc.procedure <;> rfl
  case channels => rfl
  case record =>
    refine ⟨?_, r.bytes_length⟩
    rw [Record.bytes, r.codeByte_eq, r.subject.bytes_eq, wordBytes_getD]
    rfl

end Sys2Proof.Machine
end

section
/-! PROOF. The laws of the device hold right after a reset (R220); O3. -/

namespace Sys2Proof.Machine

variable {s : State}

/-! ### The reset state among the resets -/

theorem resetBlocks_reset : resetBlocks State.reset = State.reset := rfl

/-- The state after reset is what a cold reset makes of it: no write stands in flight to be cut. -/
theorem coldReset_reset : coldReset State.reset = State.reset := rfl

theorem resetBlocks_channel (s : State) (c : Chan) : (resetBlocks s).channels[c] = Channel.reset :=
  Vector.getElem_replicate c.isLt

/-! ### Queues and counts -/

/-- A reset empties every queue, list and count but the journal's (R46, R94, R121, R173, R229). -/
theorem resetBlocks_withinCapacities (held : s.journal.held ≤ 32) : WithinCapacities (resetBlocks s) :=
  ⟨Nat.zero_le 8, Nat.zero_le 8, Nat.zero_le 16, Nat.zero_le 4, Nat.zero_le 72, held,
    fun _ hand => (nomatch hand), fun _ driving => (nomatch driving)⟩

theorem resetBlocks_oneEntryPerClass (s : State) : OneEntryPerClass (resetBlocks s) := List.nodup_nil

/-- The memory as made lists no byte, and no write waits (log 6). -/
theorem reset_storeInRegions : StoreInRegions State.reset :=
  ⟨reset_memory_wf, fun _ listed => (nomatch listed), fun _ waits => (nomatch waits)⟩

/-! ### The drive (R21, R70) -/

theorem resetBlocks_energizedCount (s : State) : energizedCount (resetBlocks s) = 0 :=
  countChans_none fun c => by rw [resetBlocks_channel]; rfl

theorem resetBlocks_heldCount (s : State) : heldCount (resetBlocks s) = 0 :=
  countChans_none fun c => by rw [resetBlocks_channel]; rfl

theorem resetBlocks_anyOutstanding (s : State) : anyOutstanding (resetBlocks s) = false :=
  List.any_eq_false.2 fun c _ => by rw [resetBlocks_channel]; decide

/-- After a reset every channel is IDLE, no move is queued and no operation is DRIVING (R21, R46, R70). -/
theorem resetBlocks_driveLaw (s : State) : DriveLaw (resetBlocks s) := by
  have idle (c : Chan) : (resetBlocks s).channels[c].drive = .idle := by rw [resetBlocks_channel]; rfl
  have atRest : AtRest (resetBlocks s) := fun _ _ => ⟨rfl, rfl, rfl, idle⟩
  have queue : QueueMatchesChannels (resetBlocks s) := by
    refine ⟨List.nodup_nil, fun c => ⟨fun queued => ?_, fun entry => (nomatch entry)⟩,
      fun c moves => absurd (idle c) moves⟩
    rw [idle] at queued; cases queued
  have toward : MovesTowardTarget (resetBlocks s) := by
    refine ⟨fun _ entry => (nomatch entry), fun c dir a held => ?_⟩
    rw [idle] at held; cases held
  have limit : WithinDriveLimit (resetBlocks s) := by
    unfold WithinDriveLimit
    rw [resetBlocks_energizedCount, resetBlocks_heldCount]
    exact ⟨Nat.zero_le _, fun _ => rfl, fun _ => rfl⟩
  exact ⟨atRest, queue, toward, limit, (resetBlocks_anyOutstanding s).symm⟩

/-! ### Every law -/

/-- Settles O3: the reset state is its own cold reset, which empties what the laws bound or relate. -/
theorem resetMeetsEveryLaw : Obligations.ResetMeetsEveryLaw := by
  unfold Obligations.ResetMeetsEveryLaw
  have capacities : WithinCapacities State.reset := resetBlocks_reset ▸ resetBlocks_withinCapacities (Nat.zero_le 32)
  have drive : DriveLaw State.reset := resetBlocks_reset ▸ resetBlocks_driveLaw State.reset
  have classes : OneEntryPerClass State.reset := resetBlocks_reset ▸ resetBlocks_oneEntryPerClass State.reset
  have journal : JournalLaw [] State.reset := coldReset_reset ▸ coldReset_journalLaw State.reset
  have sound : SoundLaw State.reset := resetBlocks_reset ▸ resetBlocks_soundLaw State.reset
  exact ⟨capacities, reset_storeInRegions, drive, oneWriteInFlight_of_reset rfl rfl, .of_reset rfl, classes,
    journal.inTurn, journal.opens, sound⟩

end Sys2Proof.Machine
end

section
/-! PROOF. The bytes of a service command read back, and the port at arrivals, at the end of the gap and at the end of a
reply (R226–R229). -/

namespace Sys2Proof.Machine

/-! ### The bytes of a legal command (R227, R228) -/

theorem byteOf_toFin (l : Fin 256) : (byteOf l.val).toFin = l := Fin.ext (byteOf_toNat l.isLt)

theorem byteOf_slot_toNat (k : Fin 128) : (byteOf k.val).toNat = k.val := byteOf_toNat (k.isLt.trans (by decide))

/-- A number of fewer than 16 bits is sent whole. -/
theorem natBytes_offset {offset : Nat} (small : offset < 65536) :
    ∃ w : Word, natBytes offset = wordBytes w ∧ w.toNat = offset :=
  ⟨BitVec.ofNat 16 offset, rfl, Nat.mod_eq_of_lt small⟩

theorem parse_status_byteOf (g : Fin 6) : parseCommand 2 [byteOf g.val] = some (.status g) := by
  have value : (byteOf g.val).toNat = g.val := byteOf_toNat (g.isLt.trans (by decide))
  exact (dif_pos (value.trans_lt g.isLt)).trans (by simp [value])

theorem parse_slotRead_byteOf (l : Fin 256) (k : Fin 128) :
    parseCommand 5 [byteOf l.val, byteOf k.val] = some (.slotRead l k) := by
  rw [parse_slotRead, byteOf_toFin, byteOf_slot_toNat, if_pos k.isLt, Fin.ofNat_eq_cast, Fin.cast_val_eq_self]

theorem parse_slotWrite_byteOf (l : Fin 256) (k : Fin 128) {data : List Byte} (whole : data.length = 8) :
    parseCommand 6 (byteOf l.val :: byteOf k.val :: data) = some (.slotWrite l k data) := by
  rw [parse_slotWrite, byteOf_toFin, byteOf_slot_toNat, if_pos ⟨k.isLt, whole⟩, Fin.ofNat_eq_cast,
    Fin.cast_val_eq_self]

theorem parse_imageRead_natBytes {offset length : Nat} (legal : legalRange offset length = true) :
    parseCommand 7 (natBytes offset ++ [byteOf length]) = some (.imageRead offset length) := by
  obtain ⟨-, short, inImage⟩ := (legalRange_iff _ _).1 legal
  obtain ⟨w, bytes, rfl⟩ := natBytes_offset (offset := offset) (by omega)
  rw [bytes, parse_imageRead, byteOf_toNat (by omega), if_pos legal]

theorem parse_imageWrite_natBytes {offset : Nat} {data : List Byte} (legal : legalRange offset data.length = true) :
    parseCommand 8 (natBytes offset ++ [byteOf data.length] ++ data) = some (.imageWrite offset data) := by
  have inRange := (legalRange_iff _ _).1 legal
  obtain ⟨w, bytes, rfl⟩ := natBytes_offset (offset := offset) (by omega)
  rw [bytes, parse_imageWrite_length, if_pos inRange]

theorem parse_lock_boolByte (l : Fin 256) (on : Bool) :
    parseCommand 9 [byteOf l.val, boolByte on] = some (.lock l on) := by
  rw [parse_lock, byteOf_toFin]
  cases on <;> rfl

/-- Settles O13: the code byte selects the command, and its arguments are read back from their bytes. -/
theorem serviceCommandRoundTrip : Obligations.ServiceCommandRoundTrip := by
  unfold Obligations.ServiceCommandRoundTrip
  intro c legal
  cases c with
  | ident => exact judgeCommand_withSum 0x01 []
  | status g => exact (judgeCommand_withSum 0x02 _).trans (parse_status_byteOf g)
  | channels => exact judgeCommand_withSum 0x03 []
  | journal k => exact judgeCommand_withSum 0x04 [k]
  | slotRead l k => exact (judgeCommand_withSum 0x05 _).trans (parse_slotRead_byteOf l k)
  | slotWrite l k data =>
    exact (judgeCommand_withSum 0x06 _).trans (parse_slotWrite_byteOf l k (of_decide_eq_true legal))
  | imageRead offset length => exact (judgeCommand_withSum 0x07 _).trans (parse_imageRead_natBytes legal)
  | imageWrite offset data => exact (judgeCommand_withSum 0x08 _).trans (parse_imageWrite_natBytes legal)
  | lock l on => exact (judgeCommand_withSum 0x09 _).trans (parse_lock_boolByte l on)
  | restart => exact judgeCommand_withSum 0x0A []

/-! ### Arrivals (R226) -/

section
variable {p : Port} {b : Byte} {framed : Bool}

/-- An arrival restarts the gap timer and leaves the reply going out alone. -/
theorem Port.arrival_frame (p : Port) (b : Byte) (framed : Bool) : p.arrival b framed = { p with
    state := (p.arrival b framed).state
    assembly := (p.arrival b framed).assembly
    bad := (p.arrival b framed).bad
    overlong := (p.arrival b framed).overlong
    arrived := (p.arrival b framed).arrived
    gap := some 0 } := by
  unfold Port.arrival
  split
  case h_2 =>
    split
    · split <;> rfl
    · rfl
  all_goals rfl

theorem Port.arrival_listening (h : p.state = .listening) : p.arrival b framed = { p with
    state := .assembling
    assembly := if framed then [b] else []
    bad := !framed
    overlong := false
    gap := some 0 } := by
  unfold Port.arrival; rw [h]

/-- A framed byte is stored in one of the 72 places or marks the command overlong; an unframed one marks it bad. -/
theorem Port.arrival_assembling (h : p.state = .assembling) : p.arrival b framed = { p with
    assembly := if framed = true ∧ p.assembly.length < 72 then p.assembly ++ [b] else p.assembly
    bad := p.bad || !framed
    overlong := p.overlong || (framed && decide (72 ≤ p.assembly.length))
    gap := some 0 } := by
  unfold Port.arrival Config.assemblyCapacity
  rw [h]
  cases framed with
  | false => simp
  | true =>
    by_cases room : p.assembly.length < 72
    · simp [room, Nat.not_le.2 room]
    · simp [room, Nat.not_lt.1 room]

theorem Port.arrival_busy (h : p.state = .executing ∨ p.state = .replying) :
    p.arrival b framed = { p with arrived := true, gap := some 0 } := by
  unfold Port.arrival
  obtain h | h := h <;> rw [h]

theorem Port.arrival_discarding (h : p.state = .discarding) : p.arrival b framed = { p with gap := some 0 } := by
  unfold Port.arrival; rw [h]

/-- Only the first byte of a command changes the port's state. -/
theorem Port.arrival_state (h : p.state ≠ .listening) : (p.arrival b framed).state = p.state := by
  cases state : p.state with
  | listening => exact absurd state h
  | assembling => rw [Port.arrival_assembling state]; exact state
  | executing => rw [Port.arrival_busy (.inl state)]; exact state
  | replying => rw [Port.arrival_busy (.inr state)]; exact state
  | discarding => rw [Port.arrival_discarding state]; exact state

end

/-! ### The end of the gap (R226, R227) -/

section
variable {s : State}

theorem endCommand_refused {spoilt : Bool} {bytes : List Byte} (h : spoilt = true ∨ judgeCommand bytes = none) :
    endCommand spoilt bytes s = answered .badcmd [] s := by
  have judged : (if spoilt then none else judgeCommand bytes) = none := by
    obtain rfl | unknown := h
    · rfl
    · rw [unknown, ite_self]
  unfold endCommand
  rw [judged]
  rfl

theorem endCommand_taken {bytes : List Byte} {c : ServiceCmd} (h : judgeCommand bytes = some c) :
    endCommand false bytes s = takeCommand c (ended s) := by
  unfold endCommand
  rw [if_neg Bool.false_ne_true, h]
  rfl

theorem exec_gapTimerExpiry_assembling (h : s.port.state = .assembling) :
    exec .gapTimerExpiry s = .next (endCommand (s.port.bad || s.port.overlong) s.port.assembly s) := by
  show execGapTimerExpiry s = _
  unfold execGapTimerExpiry
  rw [h]

theorem exec_gapTimerExpiry_discarding (h : s.port.state = .discarding) :
    exec .gapTimerExpiry s = .next { s with port := { s.port with state := .listening } } := by
  show execGapTimerExpiry s = _
  unfold execGapTimerExpiry
  rw [h]

theorem exec_gapTimerExpiry_other
    (h : s.port.state = .listening ∨ s.port.state = .executing ∨ s.port.state = .replying) :
    exec .gapTimerExpiry s = .next s := by
  show execGapTimerExpiry s = _
  unfold execGapTimerExpiry
  obtain h | h | h := h <;> rw [h]

/-! ### The end of a reply (R226, R229) -/

theorem gapElapsed_eq_false_iff (p : Port) : gapElapsed p = false ↔ ∃ n, p.gap = some n ∧ n < 50 := by
  unfold gapElapsed Config.gapMs
  cases p.gap <;> simp

/-- Bytes that arrived during the reply are discarded until their gap has passed. -/
theorem Port.endReply_discarding_iff (p : Port) :
    p.endReply.state = .discarding ↔ p.arrived = true ∧ ∃ n, p.gap = some n ∧ n < 50 := by
  rw [← gapElapsed_eq_false_iff]
  show (if p.arrived && !gapElapsed p then PortState.discarding else .listening) = .discarding ↔ _
  simp

theorem Port.endReply_state (p : Port) : p.endReply.state = .discarding ∨ p.endReply.state = .listening :=
  ite_eq_or_eq _ _ _

theorem exec_replyEnd (h : s.port.state = .replying) : exec .replyEnd s = .next { s with port := s.port.endReply } := by
  show execReplyEnd s = _
  unfold execReplyEnd
  rw [if_pos h]

end

/-- Settles O57: the arrival by the port's state, the gap's end by the judgement of the bytes (a legal command is
judged to be itself), the reply's end by the gap since the last byte. -/
theorem portTakesBytesAndEndsReplies : Obligations.PortTakesBytesAndEndsReplies := by
  unfold Obligations.PortTakesBytesAndEndsReplies
  intro s b framed
  refine ⟨⟨s.port.arrival b framed, rfl, Port.arrival_frame _ _ _, fun listening => ?_, Port.arrival_state,
    fun assembling => ?_, fun busy => ?_, Port.arrival_discarding⟩, exec_gapTimerExpiry_discarding,
    exec_gapTimerExpiry_other, fun assembling => ⟨fun refused => ?_, fun c legal good whole bytes => ?_⟩,
    fun replying => ⟨s.port.endReply.state, exec_replyEnd replying, s.port.endReply_discarding_iff,
      s.port.endReply_state⟩⟩
  case refine_1 =>
    rw [Port.arrival_listening listening]
    exact ⟨rfl, rfl, rfl, rfl, rfl⟩
  case refine_2 =>
    rw [Port.arrival_assembling assembling]
    exact ⟨rfl, rfl, rfl, rfl⟩
  case refine_3 =>
    rw [Port.arrival_busy busy]
    exact ⟨rfl, rfl, rfl, rfl⟩
  case refine_4 =>
    rw [exec_gapTimerExpiry_assembling assembling,
      endCommand_refused (by rwa [Bool.or_eq_true, or_assoc])]
  case refine_5 =>
    rw [exec_gapTimerExpiry_assembling assembling, good, whole, bytes]
    exact congrArg Host.Outcome.next (endCommand_taken (serviceCommandRoundTrip c legal))

end Sys2Proof.Machine
end

section
/-! PROOF. What runs a command, and what every command leaves alone: the queue of waiting commands and the inputs of the
part; O1 and O2. -/

namespace Sys2Proof.Machine

variable {s : State}

/-- Settles O1: a step takes the front command from the queue. -/
theorem stepRunsTheFrontCommand : Obligations.StepRunsTheFrontCommand := by
  unfold Obligations.StepRunsTheFrontCommand
  intro c rest s waiting
  unfold step
  rw [waiting]

/-! ### What is kept -/

/-- The waiting commands and the pins are as before: what no command changes. -/
structure InputsKept (s t : State) : Prop where
  pending : t.pending = s.pending
  pins : t.pins = s.pins

theorem InputsKept.refl (s : State) : InputsKept s s := ⟨rfl, rfl⟩

theorem InputsKept.trans {s t u : State} (h : InputsKept s t) (k : InputsKept t u) : InputsKept s u :=
  ⟨k.pending.trans h.pending, k.pins.trans h.pins⟩

/-- A command whose conditions do not hold changes nothing (log 1). -/
theorem InputsKept.ite {p : Prop} [Decidable p] {t : State} (h : p → InputsKept s t) :
    InputsKept s (if p then t else s) := by
  split
  · exact h ‹p›
  · exact .refl s

/-- A command's answer is a next state with queue and pins as before. -/
def AnswersKept (s : State) (r : Result) : Prop := ∃ t, r = .next t ∧ InputsKept s t

theorem AnswersKept.next {t : State} (k : InputsKept s t) : AnswersKept s (.next t) := ⟨t, rfl, k⟩

theorem AnswersKept.ite {p : Prop} [Decidable p] {t : State} (k : p → InputsKept s t) :
    AnswersKept s (.next (if p then t else s)) := .next (.ite k)

/-! ### Shared operations -/

theorem reportFault_inputsKept (k : FaultCode) (a b c d : Byte) : InputsKept s (reportFault k a b c d s) :=
  ⟨reportFault_pending s k a b c d, reportFault_pins s k a b c d⟩

theorem handOver_inputsKept (f : TxFrame) : InputsKept s (handOver f s) := ⟨handOver_pending s f, handOver_pins s f⟩

theorem countAttempt_inputsKept (cause : AttemptCause) : InputsKept s (countAttempt cause s) :=
  ⟨countAttempt_pending s cause, countAttempt_pins s cause⟩

theorem issueWrite_inputsKept : InputsKept s (issueWrite s) := by
  rw [issueWrite_frame]; exact ⟨rfl, rfl⟩

/-! ### Resets and start-up -/

/-- A cold reset keeps what no reset touches (R220, log 3). -/
theorem coldReset_inputsKept : InputsKept s (coldReset s) := by
  have cut : InputsKept s (cutWrite s) := by rw [cutWrite_frame]; exact ⟨rfl, rfl⟩
  exact ⟨cut.pending, cut.pins⟩

/-- A RESTART keeps it too (R224). -/
theorem warmRestart_inputsKept : InputsKept s (warmRestart s) := by
  rw [warmRestart_eq]; exact ⟨rfl, rfl⟩

theorem load_inputsKept : InputsKept s (load s) := by
  unfold load
  dsimp only
  split
  · exact ⟨rfl, rfl⟩
  · unfold loadImage
    rw [loadCalibration_frame, loadLocks_frame, reportClamped_frame]
    exact ⟨rfl, rfl⟩

theorem announceRun_inputsKept : InputsKept s (announceRun s) := by
  have judged (u : State) : InputsKept u (judgeReady u) := ⟨judgeReady_pending u, judgeReady_pins u⟩
  have checked (u : State) : InputsKept u (originationCheck u) := ⟨originationCheck_pending u, originationCheck_pins u⟩
  refine .ite fun _ => ?_
  dsimp only
  split
  · exact ((handOver_inputsKept _).trans (checked _)).trans (judged _)
  · exact (handOver_inputsKept _).trans (judged _)

theorem complete_inputsKept : InputsKept s (complete s) := by
  have registered : InputsKept s (firstRegistered s) := by unfold firstRegistered; exact ⟨rfl, rfl⟩
  have shifted (u : State) : InputsKept u (firstShift u) := ⟨rfl, rfl⟩
  have entered (u : State) : InputsKept u (enterMode u) := ⟨rfl, rfl⟩
  rw [complete_eq]
  exact ((registered.trans (shifted _)).trans (entered _)).trans announceRun_inputsKept

/-! ### The service port -/

theorem unlessStarting_inputsKept {t : State} (h : InputsKept s t) : InputsKept s (unlessStarting s t) := by
  unfold unlessStarting
  split
  · exact ⟨rfl, rfl⟩
  · exact h

/-- An entered write changes the store and the journal alone. -/
theorem answerWrite_inputsKept {o : Option State}
    (entered : ∀ u, o = some u → u = { s with store := u.store, journal := u.journal }) :
    InputsKept s (answerWrite o s) := by
  unfold answerWrite
  split
  · rename_i u
    rw [entered u rfl]; exact ⟨rfl, rfl⟩
  · exact ⟨rfl, rfl⟩

theorem takeRestart_inputsKept : InputsKept s (takeRestart s) := by
  unfold takeRestart
  split
  · exact warmRestart_inputsKept
  · exact ⟨rfl, rfl⟩

theorem takeCommand_inputsKept (c : ServiceCmd) : InputsKept s (takeCommand c s) := by
  have read (req : FetchReq) : InputsKept s (takeRead req s) := ⟨takeRead_pending s req, takeRead_pins s req⟩
  cases c with
  | ident => exact ⟨rfl, rfl⟩
  | status g => exact ⟨rfl, rfl⟩
  | channels => exact unlessStarting_inputsKept ⟨rfl, rfl⟩
  | journal k => exact ⟨rfl, rfl⟩
  | slotRead l k => exact unlessStarting_inputsKept (read _)
  | slotWrite l k data => exact unlessStarting_inputsKept (answerWrite_inputsKept fun _ entry => enterWrite_frame entry)
  | imageRead off len => exact unlessStarting_inputsKept (read _)
  | imageWrite off data =>
    exact unlessStarting_inputsKept (answerWrite_inputsKept fun _ entry => enterImage_frame entry)
  | lock l st => exact unlessStarting_inputsKept ⟨takeLock_pending s l st, takeLock_pins s l st⟩
  | restart => exact unlessStarting_inputsKept takeRestart_inputsKept

theorem endCommand_inputsKept (spoilt : Bool) (bytes : List Byte) : InputsKept s (endCommand spoilt bytes s) := by
  have judged : InputsKept s (ended s) := ⟨rfl, rfl⟩
  unfold endCommand
  dsimp only
  split
  · exact judged.trans (takeCommand_inputsKept _)
  · exact ⟨rfl, rfl⟩

theorem serviceCommand_answers (body : List Byte) : AnswersKept s (serviceCommand body s) :=
  .ite fun _ => endCommand_inputsKept false _

theorem execGapTimerExpiry_answers : AnswersKept s (execGapTimerExpiry s) := by
  refine .next ?_
  split
  · exact endCommand_inputsKept _ _
  · exact ⟨rfl, rfl⟩
  · exact .refl s

/-! ### Pistons, supply and moves -/

theorem takePress_inputsKept (i : Fin 32) : InputsKept s (takePress i s) := by
  unfold takePress
  split
  · exact ⟨pressAct_pending s _, pressAct_pins s _⟩
  · exact reportFault_inputsKept _ _ _ _ _
  · exact .refl s

theorem execPistonPress_answers (i : Fin 32) : AnswersKept s (execPistonPress i s) := by
  have pressed : InputsKept s (setPiston i true s) := ⟨rfl, rfl⟩
  exact .ite fun _ => pressed.trans (takePress_inputsKept i)

theorem execPistonRelease_answers (i : Fin 32) : AnswersKept s (execPistonRelease i s) := by
  have released : InputsKept s (setPiston i false s) := ⟨rfl, rfl⟩
  exact .ite fun _ => released.trans (.ite fun _ => handOver_inputsKept _)

theorem execSupplyFirstSample_answers (high : Bool) : AnswersKept s (execSupplyFirstSample high s) := by
  have lost : InputsKept s (setSupply .lost none s) := ⟨rfl, rfl⟩
  refine .ite fun _ => ?_
  split
  · exact ⟨rfl, rfl⟩
  · exact lost.trans (reportFault_inputsKept _ _ _ _ _)

theorem execSupplyLoss_answers : AnswersKept s (execSupplyLoss s) := by
  have held : InputsKept s (holdMoves s) := by unfold holdMoves; exact ⟨rfl, rfl⟩
  have lost (u : State) : InputsKept u (setSupply .lost none u) := ⟨rfl, rfl⟩
  exact .ite fun _ => (held.trans (lost _)).trans (reportFault_inputsKept _ _ _ _ _)

theorem execPulseStart_answers : AnswersKept s (execPulseStart s) := by
  refine .next ?_
  split
  · exact .refl s
  · exact .ite fun _ => ⟨rfl, rfl⟩

theorem execPulseEnd_answers (c : Chan) : AnswersKept s (execPulseEnd c s) := by
  refine .next ?_
  split
  · exact ⟨rfl, rfl⟩
  · exact .refl s

theorem execVerify_answers (c : Chan) : AnswersKept s (execVerify c s) := by
  refine .next ?_
  split
  · exact ⟨verifyMove_pending s c _ _, verifyMove_pins s c _ _⟩
  · exact .refl s

/-! ### Operations and the store -/

theorem execTakeUpHead_answers : AnswersKept s (execTakeUpHead s) := by
  refine .next ?_
  split
  · exact .refl s
  · exact .ite fun _ => ⟨takeUp_pending s _, takeUp_pins s _⟩

theorem execStoringCaptureRetake_answers : AnswersKept s (execStoringCaptureRetake s) := by
  refine .next ?_
  split
  · exact .refl s
  · split
    · exact ⟨takeCapture_pending s _ _ _, takeCapture_pins s _ _ _⟩
    · exact .refl s

theorem execFetchResult_answers : AnswersKept s (execFetchResult s) := by
  have issued (u : State) : InputsKept u (issueWaitingRecall u) :=
    ⟨issueWaitingRecall_pending u, issueWaitingRecall_pins u⟩
  have delivered (req : FetchReq) (bytes : List Byte) : InputsKept s (deliverFetch req bytes (fetchFreed s)) :=
    ⟨deliverFetch_pending _ req bytes, deliverFetch_pins _ req bytes⟩
  refine .next ?_
  split
  · exact .refl s
  · split
    · exact .refl s
    · exact (delivered _ _).trans (issued _)

theorem execWriteComplete_answers : AnswersKept s (execWriteComplete s) := by
  refine .next ?_
  split
  · exact .refl s
  · exact .ite fun _ => ⟨completeWrite_pending s _, completeWrite_pins s _⟩

theorem execStoreFault_answers : AnswersKept s (execStoreFault s) := by
  refine .next ?_
  split
  · exact .refl s
  · exact .ite fun _ => ⟨faultWrite_pending s _, faultWrite_pins s _⟩

/-! ### The link -/

/-- The STOP of an accepted frame, of whatever kind. -/
theorem acceptFrame_answers (kind : Nat) : AnswersKept s (.next (acceptFrame kind s)) :=
  .next ⟨acceptFrame_pending s kind, acceptFrame_pins s kind⟩

theorem execFrameStart_answers : AnswersKept s (execFrameStart s) := by
  refine .ite fun _ => ?_
  split
  · exact ⟨rfl, rfl⟩
  · exact ⟨rfl, rfl⟩
  · exact .refl s

theorem execFrameReceived_answers (f : WireFrame) : AnswersKept s (execFrameReceived f s) := by
  have whole (g : WireFrame) (mark : Mark) (ok : Bool) : InputsKept s (frameWhole g mark ok s) :=
    ⟨frameWhole_pending s g mark ok, frameWhole_pins s g mark ok⟩
  refine .ite fun _ => ?_
  split
  · exact .ite fun _ => whole _ _ _
  · exact whole _ _ _
  · exact .refl s

theorem endObjected_inputsKept : InputsKept s (endObjected s) := by
  have left : InputsKept s (setLink (s.link.leaveFrame .idle) s) := ⟨rfl, rfl⟩
  unfold endObjected
  split
  · exact left.trans (countAttempt_inputsKept _)
  · exact left

theorem endVetoed_inputsKept (level slot : Byte) : InputsKept s (endVetoed level slot s) := by
  have left : InputsKept s (setLink { s.link.leaveFrame .idle with hand := none } s) := ⟨rfl, rfl⟩
  unfold endVetoed
  split
  · exact left.trans (reportFault_inputsKept _ _ _ _ _)
  · exact ⟨rfl, rfl⟩

theorem execFrameNotAccepted_answers (cause : StopCause) : AnswersKept s (execFrameNotAccepted cause s) := by
  refine .next ?_
  split
  · exact .refl s
  · cases cause with
    | objected => exact endObjected_inputsKept
    | vetoed => exact .ite fun _ => endVetoed_inputsKept _ _

theorem execBrokenFrame_answers : AnswersKept s (execBrokenFrame s) := by
  have left : InputsKept s (setLink (s.link.leaveFrame .seeking) s) := ⟨rfl, rfl⟩
  refine .next ?_
  split
  · exact left
  · exact left.trans (countAttempt_inputsKept _)
  · exact .refl s

theorem execLinkStall_answers (header : Option Byte) : AnswersKept s (execLinkStall header s) := by
  refine .next ?_
  split
  · exact .refl s
  · exact ⟨takeStall_pending s header, takeStall_pins s header⟩

theorem execStopWithoutDelivery_answers : AnswersKept s (execStopWithoutDelivery s) := by
  refine .next ?_
  split
  · exact .refl s
  · exact .ite fun _ => ⟨rfl, rfl⟩

/-! ### The commands -/

theorem exec_answers (c : Instr) (s : State) : AnswersKept s (exec c s) := by
  cases c with
  | coldReset => exact .next coldReset_inputsKept
  | loadEvent => exact .ite fun _ => load_inputsKept
  | startUpCompletion => exact .ite fun _ => complete_inputsKept
  | debouncedChange c on =>
    exact .ite fun _ => ⟨debouncedChange_pending s c on, debouncedChange_pins s c on⟩
  | shiftEnd => exact .next ⟨rfl, rfl⟩
  | pistonPress i => exact execPistonPress_answers i
  | pistonRelease i => exact execPistonRelease_answers i
  | sequenceEndTimerExpiry => exact .ite fun _ => ⟨rfl, rfl⟩
  | sampleEvent r => exact .ite fun _ => ⟨takeSample_pending s r, takeSample_pins s r⟩
  | intervalTimerExpiry => exact .ite fun _ => ⟨endInterval_pending s, endInterval_pins s⟩
  | supplyFirstSample high => exact execSupplyFirstSample_answers high
  | supplyLoss => exact execSupplyLoss_answers
  | supplyWaitStart => exact .ite fun _ => ⟨rfl, rfl⟩
  | supplyWaitAbandon => exact .ite fun _ => ⟨rfl, rfl⟩
  | restore => exact .ite fun _ => ⟨restoreSupply_pending s, restoreSupply_pins s⟩
  | pulseStart => exact execPulseStart_answers
  | pulseEnd c => exact execPulseEnd_answers c
  | verify c => exact execVerify_answers c
  | takeUpHead => exact execTakeUpHead_answers
  | storingCaptureRetake => exact execStoringCaptureRetake_answers
  | fetchServe => exact .ite fun _ => ⟨serveFetch_pending s, serveFetch_pins s⟩
  | fetchResult => exact execFetchResult_answers
  | writeIssue => exact .next issueWrite_inputsKept
  | writeComplete => exact execWriteComplete_answers
  | storeFault => exact execStoreFault_answers
  | synchronise => exact .ite fun _ => ⟨rfl, rfl⟩
  | disturbance => exact .ite fun _ => ⟨rfl, rfl⟩
  | frameStart => exact execFrameStart_answers
  | frameReceived f => exact execFrameReceived_answers f
  | stretchExpiry => exact .ite fun _ => ⟨rfl, rfl⟩
  | frameNotAccepted cause => exact execFrameNotAccepted_answers cause
  | linkFaultTimerExpiry => exact .ite fun _ => ⟨rfl, rfl⟩
  | brokenFrame => exact execBrokenFrame_answers
  | linkStall header => exact execLinkStall_answers header
  | cancelFrame => exact acceptFrame_answers 0
  | recallFrame => exact acceptFrame_answers 1
  | captureFrame => exact acceptFrame_answers 2
  | handsetFrame => exact acceptFrame_answers 3
  | toggleFrame => exact acceptFrame_answers 4
  | tuttiFrame => exact acceptFrame_answers 5
  | stageFrame => exact acceptFrame_answers 6
  | setterFrame => exact acceptFrame_answers 7
  | levelFrame => exact acceptFrame_answers 8
  | announceFrame => exact acceptFrame_answers 9
  | serviceByteArrival b framed => exact .next ⟨rfl, rfl⟩
  | gapTimerExpiry => exact execGapTimerExpiry_answers
  | ident => exact serviceCommand_answers _
  | status group => exact serviceCommand_answers _
  | channels => exact serviceCommand_answers _
  | journal k => exact serviceCommand_answers _
  | slotRead level slot => exact serviceCommand_answers _
  | slotWrite level slot data => exact serviceCommand_answers _
  | imageRead offset length => exact serviceCommand_answers _
  | imageWrite offset data => exact serviceCommand_answers _
  | serviceLock level state => exact serviceCommand_answers _
  | restart => exact serviceCommand_answers _
  | replyEnd => exact .ite fun _ => ⟨rfl, rfl⟩
  | flashTimerExpiry f => cases f <;> exact .next ⟨rfl, rfl⟩
  | startReceiving => exact .ite fun _ => ⟨rfl, rfl⟩
  | arbitrationLost => exact .ite fun _ => ⟨rfl, rfl⟩
  | stopWithoutDelivery => exact execStopWithoutDelivery_answers

/-- Settles O2: every command's answer, its two parts written out. -/
theorem commandsCompleteAndKeepQueueAndPins : Obligations.CommandsCompleteAndKeepQueueAndPins := by
  unfold Obligations.CommandsCompleteAndKeepQueueAndPins
  intro c s
  obtain ⟨t, answered, pending, pins⟩ := exec_answers c s
  exact ⟨t, answered, pending, pins⟩

end Sys2Proof.Machine
end

section
/-! PROOF. What most events leave as it is: the operations but for their record references, the moves and channels but for
their counts and timers, and the bounds of the queues (R22, R38, R49, R79, R97, R163, R168, R201, R226). -/

namespace Sys2Proof.Machine

variable {s : State}

/-! ### What the laws of the drive and of the capacities look at -/

/-- A drive state with its timers taken off (R54, R55, R57). -/
def Drive.untimed : Drive → Drive
  | .energized dir a _ _ => .energized dir a 0 none
  | .settling dir a _ => .settling dir a 0
  | d => d

@[simp] theorem Drive.isEnergized_untimed (d : Drive) : d.untimed.isEnergized = d.isEnergized := by cases d <;> rfl

@[simp] theorem Drive.isHeld_untimed (d : Drive) : d.untimed.isHeld = d.isHeld := by cases d <;> rfl

@[simp] theorem Drive.untimed_eq_idle_iff (d : Drive) : d.untimed = .idle ↔ d = .idle := by
  cases d <;> simp [Drive.untimed]

@[simp] theorem Drive.untimed_eq_queued_iff (d : Drive) : d.untimed = .queued ↔ d = .queued := by
  cases d <;> simp [Drive.untimed]

@[simp] theorem Drive.untimed_eq_held_iff (d : Drive) (dir : Bool) (a : Attempt) :
    d.untimed = .held dir a ↔ d = .held dir a := by
  cases d <;> simp [Drive.untimed]

/-- Two records of a channel that the law of the drive cannot tell apart. -/
structure Channel.SameMove (x y : Channel) : Prop where
  type : y.type = x.type
  contact : y.contact = x.contact
  registered : y.registered = x.registered
  drive : y.drive.untimed = x.drive.untimed

theorem Channel.SameMove.refl (x : Channel) : x.SameMove x := ⟨rfl, rfl, rfl, rfl⟩

theorem Channel.SameMove.trans {x y z : Channel} (h : x.SameMove y) (k : y.SameMove z) : x.SameMove z :=
  ⟨k.type.trans h.type, k.contact.trans h.contact, k.registered.trans h.registered, k.drive.trans h.drive⟩

/-- As many listed operations, and the same counts of the DRIVING one. -/
structure Sequencer.SameOperations (q r : Sequencer) : Prop where
  length : r.list.length = q.list.length
  counts : r.driving.map (fun d => d.counts) = q.driving.map (fun d => d.counts)

theorem Sequencer.SameOperations.refl (q : Sequencer) : q.SameOperations q := ⟨rfl, rfl⟩

theorem Sequencer.SameOperations.trans {q r u : Sequencer} (h : q.SameOperations r) (k : r.SameOperations u) :
    q.SameOperations u :=
  ⟨k.length.trans h.length, k.counts.trans h.counts⟩

/-- Dropped references leave the operations (R208). -/
theorem Sequencer.dropRef_sameOperations (q : Sequencer) (p : Fin 32) : q.SameOperations (q.dropRef p) :=
  ⟨List.length_map _, by simp [Sequencer.dropRef, Function.comp_def]⟩

/-- The transmit queue and the frame in hand stay within their bounds, and the queue keeps one entry of each class (R163,
R168). -/
structure Link.BoundsKept (l m : Link) : Prop where
  queue : l.txq.length ≤ 16 → m.txq.length ≤ 16
  hand : (∀ h, l.hand = some h → h.attempts < 3) → ∀ h, m.hand = some h → h.attempts < 3
  classes : (l.txq.map TxFrame.cls).Nodup → (m.txq.map TxFrame.cls).Nodup

theorem Link.BoundsKept.refl (l : Link) : l.BoundsKept l := ⟨id, id, id⟩

theorem Link.BoundsKept.trans {l m n : Link} (h : l.BoundsKept m) (k : m.BoundsKept n) : l.BoundsKept n :=
  ⟨k.queue ∘ h.queue, k.hand ∘ h.hand, k.classes ∘ h.classes⟩

/-- What is queued and in hand stays. -/
theorem Link.BoundsKept.same {l m : Link} (queue : m.txq = l.txq) (hand : m.hand = l.hand) : l.BoundsKept m :=
  ⟨by rw [queue]; exact id, by rw [hand]; exact id, by rw [queue]; exact id⟩

/-- Every queue and count outside the Sequencer stays within its bound (R79, R97, R163, R168, R201, R226). -/
structure BoundsKept (s t : State) : Prop where
  writes : s.store.queue.length ≤ 8 → t.store.queue.length ≤ 8
  link : s.link.BoundsKept t.link
  ring : s.cresc.ring.length ≤ 4 → t.cresc.ring.length ≤ 4
  assembly : s.port.assembly.length ≤ 72 → t.port.assembly.length ≤ 72
  held : s.journal.held ≤ 32 → t.journal.held ≤ 32

theorem BoundsKept.refl (s : State) : BoundsKept s s := ⟨id, .refl _, id, id, id⟩

theorem BoundsKept.trans {s t u : State} (h : BoundsKept s t) (k : BoundsKept t u) : BoundsKept s u :=
  ⟨k.writes ∘ h.writes, h.link.trans k.link, k.ring ∘ h.ring, k.assembly ∘ h.assembly, k.held ∘ h.held⟩

/-- A change outside store, link, shoe, port and journal. -/
theorem BoundsKept.outside {t : State} (store : t.store = s.store) (link : t.link = s.link) (cresc : t.cresc = s.cresc)
    (port : t.port = s.port) (journal : t.journal = s.journal) : BoundsKept s t :=
  ⟨by rw [store]; exact id, link ▸ .refl _, by rw [cresc]; exact id, by rw [port]; exact id, by rw [journal]; exact id⟩

/-- An event that neither plans, moves nor closes anything: what the law of the drive looks at stays, and every bound. -/
structure Routine (s t : State) : Prop where
  working : working t = working s
  ops : s.ops.SameOperations t.ops
  queue : t.drive.queue = s.drive.queue
  supply : t.drive.supply = s.drive.supply
  limit : t.params.p = s.params.p
  channel : ∀ c : Chan, s.channels[c].SameMove t.channels[c]
  bounds : BoundsKept s t

theorem Routine.refl (s : State) : Routine s s := ⟨rfl, .refl _, rfl, rfl, rfl, fun _ => .refl _, .refl s⟩

theorem Routine.trans {s t u : State} (h : Routine s t) (k : Routine t u) : Routine s u where
  working := k.working.trans h.working
  ops := h.ops.trans k.ops
  queue := k.queue.trans h.queue
  supply := k.supply.trans h.supply
  limit := k.limit.trans h.limit
  channel c := (h.channel c).trans (k.channel c)
  bounds := h.bounds.trans k.bounds

/-- An event, after another one. -/
theorem Routine.after {t u : State} (k : Routine t u) (h : Routine s t) : Routine s u := h.trans k

theorem Routine.ite {p : Prop} [Decidable p] {t : State} (h : p → Routine s t) : Routine s (if p then t else s) := by
  split
  · exact h ‹p›
  · exact .refl s

/-- A change outside the Sequencer, the Drive Scheduler and the channels. -/
theorem Routine.of_bounds {t : State} (view : t.view.mode = s.view.mode) (ops : t.ops = s.ops)
    (drive : t.drive = s.drive) (params : t.params = s.params) (channels : t.channels = s.channels)
    (bounds : BoundsKept s t) : Routine s t :=
  ⟨by unfold Machine.working; rw [view], ops ▸ .refl _, by rw [drive], by rw [drive], by rw [params],
    fun c => by rw [channels]; exact .refl _, bounds⟩

/-- A change outside all that the laws of the drive and of the capacities look at. -/
theorem Routine.outside {pending : List Instr} {pins : Pins} {memory : Memory} {start : Start} {relay : Relay}
    {pistons : PistonUnit} {flashes : Flashes} {time : TimeBase} {torn : Nat} :
    Routine s { s with
      pending := pending, pins := pins, memory := memory, start := start, relay := relay, pistons := pistons
      flashes := flashes, time := time, torn := torn } :=
  .of_bounds rfl rfl rfl rfl rfl (.outside rfl rfl rfl rfl rfl)

/-- A change of the link that keeps its bounds. -/
theorem Routine.onLink {l : Link} (h : s.link.BoundsKept l) : Routine s (setLink l s) :=
  .of_bounds rfl rfl rfl rfl rfl ⟨id, h, id, id, id⟩

/-- A change of the store beside its queue. -/
theorem Routine.onStore {st : Store} (h : s.store.queue.length ≤ 8 → st.queue.length ≤ 8) :
    Routine s { s with store := st } :=
  .of_bounds rfl rfl rfl rfl rfl ⟨h, .refl _, id, id, id⟩

theorem Routine.onCresc {x : Cresc} (h : s.cresc.ring.length ≤ 4 → x.ring.length ≤ 4) :
    Routine s { s with cresc := x } :=
  .of_bounds rfl rfl rfl rfl rfl ⟨id, .refl _, h, id, id⟩

theorem Routine.onPort {p : Port} (h : s.port.assembly.length ≤ 72 → p.assembly.length ≤ 72) :
    Routine s { s with port := p } :=
  .of_bounds rfl rfl rfl rfl rfl ⟨id, .refl _, id, h, id⟩

/-- A change of the view that keeps the mode. -/
theorem Routine.onView {v : View} (h : v.mode = s.view.mode) : Routine s (setView v s) :=
  .of_bounds h rfl rfl rfl rfl (.outside rfl rfl rfl rfl rfl)

/-- A change of counts and timers of the channels. -/
theorem Routine.onChannels {v : Vector Channel 48} (h : ∀ c : Chan, s.channels[c].SameMove v[c]) :
    Routine s { s with channels := v } :=
  ⟨rfl, .refl _, rfl, rfl, rfl, h, .outside rfl rfl rfl rfl rfl⟩

/-! ### Journal and hand-overs -/

/-- A record written keeps the count of the records within 32 (R201, R208). -/
theorem Routine.writeRecord (r : Record) : Routine s (writeRecord r s) :=
  ⟨rfl, s.ops.dropRef_sameOperations _, rfl, rfl, rfl, fun _ => .refl _,
    ⟨fun h => (List.length_map _).trans_le h, .refl _, id, id, fun _ => Nat.min_le_left _ _⟩⟩

theorem Routine.reportFault (k : FaultCode) (a b c d : Byte) : Routine s (reportFault k a b c d s) := .writeRecord _

/-- A closing changes records alone (R204). -/
theorem Routine.closeRecord (ref : Option (Fin 32)) (st : RecState) (o : Option FaultCode) :
    Routine s (closeRecord ref st o s) :=
  .of_bounds rfl rfl rfl rfl rfl ⟨id, .refl _, id, id, fun h => by
    rw [closeRecord_journal, Journal.close_frame]; exact h⟩

theorem Routine.closeAll (st : RecState) (es : List OpEntry) : Routine s (closeAll st es s) := by
  induction es generalizing s with
  | nil => exact .refl _
  | cons e es ih => exact (Routine.closeRecord e.record st none).trans ih

/-- A hand-over keeps at most one entry of each class (R168–R171). -/
theorem coalesce_classes {q r : List TxFrame} {f : TxFrame} (h : coalesce q f = some r)
    (distinct : (q.map TxFrame.cls).Nodup) : (r.map TxFrame.cls).Nodup := by
  have others : ((q.filter (fun e => !sameClass f e)).map TxFrame.cls).Nodup :=
    distinct.sublist (List.filter_sublist.map _)
  have appended {l : List TxFrame} (hl : (l.map TxFrame.cls).Nodup) (new : ∀ e ∈ l, e.cls ≠ f.cls) :
      ((l ++ [f]).map TxFrame.cls).Nodup := by
    rw [List.map_append, List.nodup_append]
    refine ⟨hl, List.nodup_singleton _, fun c hc d hd => ?_⟩
    obtain ⟨e, he, rfl⟩ := List.mem_map.1 hc
    rw [List.mem_singleton.1 hd]
    exact new e he
  unfold coalesce at h
  split at h
  · split at h
    · cases h; exact distinct
    · split at h <;> cases h
      · exact others
      · refine appended others fun e he => ?_
        simpa [sameClass] using (List.mem_filter.1 he).2
  · rename_i none
    split at h <;> cases h
    refine appended distinct fun e he same => none ?_
    exact List.any_eq_true.2 ⟨e, he, decide_eq_true same⟩

/-- A frame taken into hand starts at attempt count 0, one queued keeps the queue's rules (R149, R163, R169–R171). -/
theorem takenLink_boundsKept {f : TxFrame} {l : Link} (h : takenLink f s = some l) : s.link.BoundsKept l := by
  refine ⟨fun room => takenLink_length f s l room h, fun counted => ?_, fun distinct => ?_⟩
  all_goals
    unfold takenLink at h
    split at h
  · cases h
    rintro hand ⟨⟩
    exact Nat.zero_lt_succ 2
  · obtain ⟨q, -, rfl⟩ := Option.map_eq_some_iff.1 h
    exact counted
  · cases h; exact List.nodup_nil
  · obtain ⟨q, entered, rfl⟩ := Option.map_eq_some_iff.1 h
    exact coalesce_classes entered distinct

theorem Routine.handOver (f : TxFrame) : Routine s (handOver f s) := by
  unfold Machine.handOver
  split
  · split
    · rename_i l taken
      exact .onLink (takenLink_boundsKept taken)
    · exact .reportFault _ _ _ _ _
  · exact .refl s

/-! ### The shoe -/

theorem Routine.sendStage : Routine s (sendStage s) := .after (.handOver _) (.onCresc (fun h => h))

theorem Routine.originationCheck : Routine s (originationCheck s) := .ite (fun _ => .sendStage)

theorem Routine.stageUpdate (f : Fin 1024) : Routine s (stageUpdate f s) := .ite (fun _ => .onCresc (fun h => h))

theorem Routine.takeSample (r : Fin 1024) : Routine s (takeSample r s) := by
  have taken : Routine s { s with cresc := { s.cresc with
      ring := pushSample s.cresc.ring r, filtered := filterRing (pushSample s.cresc.ring r) } } :=
    .onCresc (pushSample_length _ r)
  unfold Machine.takeSample
  dsimp only
  split
  · exact taken
  · split
    · exact (taken.trans (.stageUpdate _)).trans .originationCheck
    · exact taken

theorem Routine.endInterval : Routine s (endInterval s) := by
  unfold Machine.endInterval
  split
  · exact .sendStage
  · exact .onCresc (fun h => h)

/-! ### The store -/

theorem Routine.enterWrite {t : Target} {d : List Byte} {c : Option (Fin 32)} {u : State}
    (h : enterWrite t d c s = some u) : Routine s u := by
  unfold Machine.enterWrite at h
  split at h
  · cases h
  · rename_i q entered
    cases h
    exact .after (.closeRecord _ _ _) (.onStore fun room => enterQueue_length _ _ _ _ _ room entered)

theorem Routine.enterAll {ts : List (Target × List Byte)} {u : State} (h : enterAll ts s = some u) : Routine s u := by
  induction ts generalizing s with
  | nil => cases h; exact .refl _
  | cons td ts ih =>
    unfold Machine.enterAll at h
    split at h
    · cases h
    · rename_i v entered
      exact (Routine.enterWrite entered).trans (ih h)

theorem Routine.enterImage {offset : Nat} {data : List Byte} {u : State} (h : enterImage offset data s = some u) :
    Routine s u := by
  unfold Machine.enterImage at h
  dsimp only at h
  split at h
  · exact .enterAll h
  · cases h

theorem Routine.writeLockByte (n : Fin 32) : Routine s (writeLockByte n s) := by
  unfold Machine.writeLockByte
  split
  · rename_i entered; exact .enterWrite entered
  · exact .onStore (fun h => h)

theorem Routine.writeCalibration : Routine s (writeCalibration s) := by
  unfold Machine.writeCalibration
  split
  · rename_i entered; exact .enterWrite entered
  · exact .onStore (fun h => h)

theorem Routine.serveMark : Routine s (serveMark s) := by
  unfold Machine.serveMark
  split
  · exact .after .writeCalibration (.onStore (fun h => h))
  · split
    · exact .refl s
    · exact .after (.writeLockByte _) (.onStore (fun h => h))

theorem Routine.setLock (level : Fin 256) (lock : Bool) : Routine s (setLock level lock s) :=
  .after (.writeLockByte _) (.onStore (fun h => h))

theorem Routine.serveFetch : Routine s (serveFetch s) := by
  unfold Machine.serveFetch
  split
  · split
    · exact .onStore (fun h => h)
    · exact .refl s
  · exact .refl s

theorem Routine.requestFetch (req : FetchReq) : Routine s (requestFetch req s) :=
  .after .serveFetch (.onStore (fun h => h))

theorem Routine.issueWrite : Routine s (issueWrite s) := by
  unfold Machine.issueWrite
  split
  · exact .refl s
  · rename_i e rest queued
    exact .ite fun _ => .onStore fun room => by rw [queued] at room; exact room

theorem Routine.afterWrite : Routine s (afterWrite s) := (Routine.serveFetch.trans .serveMark).trans .issueWrite

theorem Routine.endWrite (lit : Bool) : Routine s (endWrite lit s) :=
  .onStore fun room => (List.tail_sublist _).length_le.trans room

theorem Routine.completeWrite (e : WriteEntry) : Routine s (completeWrite e s) := by
  have stored : Routine s (storeWrite e s) := .outside
  exact ((stored.trans (.endWrite false)).trans (.closeRecord _ _ _)).trans .afterWrite

theorem Routine.faultWrite (e : WriteEntry) : Routine s (faultWrite e s) := by
  have torn : Routine s (faultMemory e s) := by rw [faultMemory_frame]; exact .outside
  have recorded : Routine s (faultRecorded e s) := .after (.closeRecord _ _ _) (torn.trans (.reportFault _ _ _ _ _))
  exact (recorded.trans (.endWrite true)).trans .afterWrite

end Sys2Proof.Machine
end

section
/-! PROOF. The events of pistons, link, deliveries, service port and time that are routine: they leave the operations, the
moves and the channels as they are and keep every bound. -/

namespace Sys2Proof.Machine

variable {s : State}

/-! ### Pistons -/

theorem Routine.calibrationPress : Routine s (calibrationPress s) := by
  have accepted (c f : Fin 1024) : Routine s { s with
      store := { s.store with c0 := c, c1 := f }
      cresc := { s.cresc with procedure := none, cal := .good }
      flashes := { s.flashes with cresc := none } } :=
    .of_bounds rfl rfl rfl rfl rfl ⟨id, .refl _, id, id, id⟩
  unfold Machine.calibrationPress
  split
  · exact .refl s
  · exact .onCresc (fun h => h)
  · split
    · exact .after .writeCalibration (accepted _ _)
    · exact .after (.reportFault _ _ _ _ _) (.onCresc (fun h => h))

theorem Routine.actStep (function : Byte) (st : SeqStep) : Routine s (actStep function st s) := by
  unfold Machine.actStep
  split
  · exact .handOver _
  · exact .refl s
  · unfold sequenceEnd
    dsimp only
    split
    · exact .outside
    · exact .after (.reportFault _ _ _ _ _) .outside

/-- Withdrawing a queued frame keeps the rules of the queue (R168, R170). -/
theorem Routine.withdrawTutti : Routine s (withdrawTutti s) :=
  .onLink ⟨fun room => (List.length_filter_le _ _).trans room, id,
    fun distinct => distinct.sublist (List.filter_sublist.map _)⟩

theorem Routine.pressTutti : Routine s (pressTutti s) := by
  unfold Machine.pressTutti
  split
  · exact .handOver _
  · split
    · exact .withdrawTutti
    · exact .handOver _

theorem Routine.pressAct (fn : PistonFn) : Routine s (pressAct fn s) := by
  match fn with
  | .nothing => exact .refl s
  | .recall slot =>
    show Routine s (pressRecall slot s)
    unfold pressRecall
    split <;> exact .handOver _
  | .next => exact .actStep _ _
  | .prev => exact .actStep _ _
  | .set => exact .handOver _
  | .cancelAll => exact .handOver _
  | .cancelDiv d => exact .handOver _
  | .toggle stop => exact .handOver _
  | .tutti => exact .pressTutti
  | .levelUp => exact .ite fun _ => .handOver _
  | .levelDown => exact .ite fun _ => .handOver _
  | .lock => exact .ite fun _ => .setLock _ _
  | .program k => exact .ite fun _ => .ite fun _ => .after .originationCheck (.onCresc (fun h => h))
  | .calibrate => exact .ite fun _ => .calibrationPress

theorem Routine.takePress (i : Fin 32) : Routine s (takePress i s) := by
  unfold Machine.takePress
  split
  · exact .pressAct _
  · exact .reportFault _ _ _ _ _
  · exact .refl s

/-! ### The link -/

/-- Leaving a frame keeps what is queued and in hand (R148, R152, R164). -/
theorem Link.leaveFrame_boundsKept (l : Link) (x : LineState) : l.BoundsKept (l.leaveFrame x) := .same rfl rfl

theorem Link.withdrawHold_boundsKept (l : Link) : l.BoundsKept l.withdrawHold := by
  unfold Link.withdrawHold
  split
  · exact .same rfl rfl
  · exact .refl l

theorem Routine.leaveFrame (x : LineState) : Routine s (setLink (s.link.leaveFrame x) s) :=
  .onLink (s.link.leaveFrame_boundsKept x)

/-- A START keeps the attempt count of the frame in hand, which leaves the queue (R153). -/
theorem Routine.driveStart {h : Hand} {q : List TxFrame} (queue : q.Sublist s.link.txq)
    (counted : (∀ x, s.link.hand = some x → x.attempts < 3) → h.attempts < 3) : Routine s (driveStart h q s) := by
  refine .onLink ⟨fun room => queue.length_le.trans room, ?_, fun distinct => distinct.sublist (queue.map _)⟩
  rintro old x ⟨⟩
  exact counted old

/-- An attempt is counted while fewer than 3 are made; at the third the frame leaves hand (R162). -/
theorem Routine.countAttempt (cause : AttemptCause) : Routine s (countAttempt cause s) := by
  unfold Machine.countAttempt
  split
  · exact .refl s
  · split
    · rename_i below
      refine .onLink ⟨id, ?_, id⟩
      rintro - x ⟨⟩
      exact below
    · refine .after (.reportFault _ _ _ _ _) (.onLink ⟨id, ?_, id⟩)
      rintro - x ⟨⟩

theorem Routine.frameWhole (f : WireFrame) (mark : Mark) (ok : Bool) : Routine s (frameWhole f mark ok s) :=
  .onLink (.same rfl rfl)

theorem Routine.endObjected : Routine s (endObjected s) := by
  unfold Machine.endObjected
  split
  · exact .after (.countAttempt _) (.leaveFrame _)
  · exact .leaveFrame _

theorem Routine.endVetoed (level slot : Byte) : Routine s (endVetoed level slot s) := by
  unfold Machine.endVetoed
  split
  · refine .after (.reportFault _ _ _ _ _) (.onLink ⟨id, ?_, id⟩)
    rintro - x ⟨⟩
  · exact .leaveFrame _

theorem Routine.takeStall (header : Option Byte) : Routine s (takeStall header s) := by
  have seeking : Routine s (setLink { s.link.leaveFrame .seeking with stall := 0, stalled := true } s) :=
    .onLink (.same rfl rfl)
  exact .after (.reportFault _ _ _ _ _) (seeking.trans (.ite fun _ => .countAttempt _))

/-! ### Deliveries -/

theorem Routine.stopLink (mark : Mark) : Routine s (stopLink mark s) := by
  refine .onLink ⟨id, fun counted x taken => counted x ?_, id⟩
  change (if mark = .transmitted then none else s.link.hand) = some x at taken
  split at taken
  · cases taken
  · exact taken

/-- The first step of a delivery is for the view alone (R190, R194). -/
theorem Routine.hear (mark : Mark) (origin : Station) (m : Msg) : Routine s (hear mark origin m s) := .onView rfl

theorem Routine.judgeReady : Routine s (judgeReady s) := .onView rfl

theorem Routine.recomposeIf (changed : Bool) : Routine s (recomposeIf changed s) := .ite fun _ => .outside

theorem Routine.greet (isNew : Bool) : Routine s (greet isNew s) := by
  unfold Machine.greet newStationActions
  refine .ite fun _ => ?_
  have staged : Routine s (if s.params.shoeRole then Machine.sendStage (Machine.handOver .announce s)
      else Machine.handOver .announce s) := .after (.ite fun _ => .sendStage) (.handOver _)
  dsimp only
  split
  · exact staged.trans (.handOver _)
  · exact staged

/-- LISTEN works on the operations as RUN does; all that was to be sent is withdrawn (R197). -/
theorem Routine.enterListen (run : s.view.mode = .run) : Routine s (enterListen s) where
  working := by simp only [Machine.working, run]; rfl
  ops := .refl _
  queue := rfl
  supply := rfl
  limit := rfl
  channel _ := .refl _
  bounds := ⟨id, ⟨fun _ => Nat.zero_le 16, fun _ _ h => (nomatch h), fun _ => List.nodup_nil⟩, id, id, id⟩

theorem Routine.checkDuplicate (mark : Mark) (header : Byte) : Routine s (checkDuplicate mark header s) := by
  have recorded : Routine s (duplicateRecorded header s) :=
    .after (.onView rfl) (.reportFault .duplicateId 0 header 0 0)
  refine .ite fun _ => ?_
  unfold detectDuplicate
  dsimp only
  split
  case h_1 run _ => exact recorded.trans (.enterListen run)
  case h_2 => exact recorded
  case h_3 => exact .refl s

/-- An effect hands the frame to the Sequencer, after the view's change, or is routine (R177–R188). -/
theorem effect_routine (mark : Mark) (header : Byte) (m : Msg) (s : State) : ∃ u, Routine s u
    ∧ (effect mark header m s = u ∨ ∃ n, effect mark header m s = toSequencer mark header n u) := by
  have viewed (v : View) (h : v.mode = s.view.mode) : Routine s (setView v s) := .onView h
  have place (l k : Byte) (n : Msg) : ∃ u, Routine s u
      ∧ ((if k.toNat < 128 then toSequencer mark header n (setView { s.view with
        level := l.toFin, lastRecall := some (l.toFin, Fin.ofNat 128 k.toNat) } s) else s) = u
        ∨ ∃ n', (if k.toNat < 128 then toSequencer mark header n (setView { s.view with
        level := l.toFin, lastRecall := some (l.toFin, Fin.ofNat 128 k.toNat) } s) else s)
          = toSequencer mark header n' u) := by
    split
    · refine ⟨_, ?_, .inr ⟨n, rfl⟩⟩
      exact viewed _ rfl
    · exact ⟨s, .refl s, .inl rfl⟩
  match m with
  | .cancel scope => exact ⟨s, .refl s, .inr ⟨_, rfl⟩⟩
  | .recall l k => exact place l k _
  | .capture l k => exact place l k _
  | .handset on stop => exact ⟨s, .refl s, .inr ⟨_, rfl⟩⟩
  | .toggle a stop => exact ⟨s, .refl s, .inr ⟨_, rfl⟩⟩
  | .tutti on =>
    refine ⟨_, ?_, .inl rfl⟩
    exact .after (.recomposeIf _) (viewed _ rfl)
  | .stage p st =>
    refine ⟨_, ?_, .inl rfl⟩
    exact .after (.recomposeIf _) (viewed _ rfl)
  | .setter armed =>
    refine ⟨_, ?_, .inl rfl⟩
    rw [show effect mark header (.setter armed) s = _ from effectSetter_eq armed s]
    refine .of_bounds rfl rfl rfl rfl rfl ⟨id, .refl _, fun h => ?_, id, id⟩
    dsimp only
    split <;> exact h
  | .level l =>
    refine ⟨_, ?_, .inl rfl⟩
    exact viewed _ rfl
  | .announce lr sr fr l =>
    refine ⟨_, ?_, .inl rfl⟩
    exact viewed _ rfl

/-- The STOP of an accepted frame is routine but for what the Sequencer makes of the frame (R161, R177). -/
theorem acceptFrame_routine (kind : Nat) (s : State) : ∃ u v, Routine s u
    ∧ (v = u ∨ ∃ mark header n, v = toSequencer mark header n u) ∧ Routine v (acceptFrame kind s) := by
  unfold acceptFrame
  split
  · rename_i mark header m _
    have heard : Routine s (judgeReady (hear mark (headerOrigin header) m (stopLink mark s))) :=
      .after .judgeReady (.after (.hear _ _ _) (.stopLink _))
    obtain ⟨u, effected, through⟩ := effect_routine mark header m
      (judgeReady (hear mark (headerOrigin header) m (stopLink mark s)))
    exact ⟨u, _, heard.trans effected, through.imp_right fun ⟨n, hn⟩ => ⟨mark, header, n, hn⟩,
      .after (.checkDuplicate _ _) (.greet _)⟩
  · exact ⟨s, s, .refl s, .inl rfl, .refl s⟩

/-! ### Start-up -/

theorem Routine.reportClamped (xs : List (Nat × Nat)) : Routine s (reportClamped xs s) := by
  induction xs generalizing s with
  | nil => exact .refl _
  | cons x xs ih => exact (Routine.reportFault _ _ _ _ _).trans ih

theorem Routine.loadLocks : Routine s (loadLocks s) := by
  unfold Machine.loadLocks
  exact .ite fun _ => .onStore (fun h => h)

theorem Routine.loadCalibration : Routine s (loadCalibration s) := by
  have read (c0 c1 : Fin 1024) : Routine s { s with
      store := { s.store with c0 := c0, c1 := c1 }
      cresc := { s.cresc with cal := judgeCal c0 c1 } } :=
    .of_bounds rfl rfl rfl rfl rfl ⟨id, .refl _, id, id, id⟩
  unfold Machine.loadCalibration
  dsimp only
  refine .ite fun _ => ?_
  split
  · exact .after (.reportFault _ _ _ _ _) (read _ _)
  · exact read _ _

theorem Routine.announceRun : Routine s (announceRun s) := by
  unfold Machine.announceRun
  refine .ite fun _ => ?_
  dsimp only
  refine .after .judgeReady ?_
  split
  · exact .after .originationCheck (.handOver _)
  · exact .handOver _

/-! ### The service port -/

theorem Routine.beginReply (st : Status) (data : List Byte) : Routine s (beginReply st data s) := .onPort (fun h => h)

theorem Routine.unlessStarting {t : State} (h : Routine s t) : Routine s (unlessStarting s t) := by
  unfold Machine.unlessStarting
  split
  · exact .beginReply _ _
  · exact h

theorem Routine.answerWrite {o : Option State} (h : ∀ u, o = some u → Routine s u) : Routine s (answerWrite o s) := by
  unfold Machine.answerWrite
  split
  · exact .after (.beginReply _ _) (h _ rfl)
  · exact .beginReply _ _

theorem Routine.takeRead (req : FetchReq) : Routine s (takeRead req s) := by
  unfold Machine.takeRead
  split
  · exact .beginReply _ _
  · exact .after (.requestFetch _) (.onPort (fun h => h))

theorem Routine.takeLock (level : Fin 256) (lock : Bool) : Routine s (takeLock level lock s) := by
  unfold Machine.takeLock
  split
  · exact .after (.beginReply _ _) (.setLock _ _)
  · exact .beginReply _ _

/-- Every service command but RESTART. -/
theorem Routine.takeCommand {c : ServiceCmd} (hc : c ≠ .restart) : Routine s (takeCommand c s) := by
  cases c with
  | ident => exact .beginReply _ _
  | status g => exact .beginReply _ _
  | channels => exact .unlessStarting (.beginReply _ _)
  | journal k => exact .beginReply _ _
  | slotRead l k => exact .unlessStarting (.takeRead _)
  | slotWrite l k data => exact .unlessStarting (.answerWrite fun _ => .enterWrite)
  | imageRead off len => exact .unlessStarting (.takeRead _)
  | imageWrite off data => exact .unlessStarting (.answerWrite fun _ => .enterImage)
  | lock l st => exact .unlessStarting (.takeLock _ _)
  | restart => exact absurd rfl hc

/-- The assembly stops growing at its 72 bytes (R226). -/
theorem Port.arrival_assembly_length {p : Port} (b : Byte) (framed : Bool) (h : p.assembly.length ≤ 72) :
    (p.arrival b framed).assembly.length ≤ 72 := by
  have stepped : (p.assembly ++ [b]).length = p.assembly.length + 1 := List.length_append
  unfold Port.arrival
  split
  · cases framed <;> simp
  · split
    · split
      · rename_i room
        exact stepped.trans_le room
      · exact h
    · exact h
  all_goals exact h

/-! ### Time -/

/-- What is queued and in hand is as before. -/
def Link.SameSending (l m : Link) : Prop := m.txq = l.txq ∧ m.hand = l.hand

theorem countHalf_sameSending : s.link.SameSending (countHalf s).link := by
  unfold countHalf
  dsimp only
  split
  · split <;> (rw [setLink_link]; split <;> exact ⟨rfl, rfl⟩)
  · exact ⟨rfl, rfl⟩

theorem frameUs_sameSending : s.link.SameSending (frameUs s).link := by
  unfold frameUs
  split
  · unfold lckFalls; dsimp only
    split <;> exact ⟨rfl, rfl⟩
  · split
    · exact ⟨rfl, rfl⟩
    · split
      · unfold startEdge
        split
        · exact countHalf_sameSending
        · exact ⟨rfl, rfl⟩
      · split
        · unfold stopEdge
          split <;> exact ⟨rfl, rfl⟩
        · exact countHalf_sameSending

theorem idleUs_sameSending : s.link.SameSending (idleUs s).link := by
  unfold idleUs
  split
  · exact ⟨rfl, rfl⟩
  · split
    · exact ⟨rfl, rfl⟩
    · split <;> exact ⟨rfl, rfl⟩

theorem seekingUs_sameSending : s.link.SameSending (seekingUs s).link := by
  unfold seekingUs
  split
  · exact ⟨rfl, rfl⟩
  · split <;> exact ⟨rfl, rfl⟩

/-- A µs of the line keeps what is to be sent. -/
theorem Routine.keepLevels {t : State} (h : LinkOnly s t) (k : s.link.SameSending t.link) (lck lda : Bool) :
    Routine s (keepLevels lck lda t) := by
  obtain ⟨p, l, rfl⟩ := h
  obtain ⟨queue, hand⟩ := k
  exact .of_bounds rfl rfl rfl rfl rfl ⟨id, .same queue hand, id, id, id⟩

theorem Routine.linkUs : Routine s (linkUs s) := by
  unfold Machine.linkUs
  split
  · exact .refl s
  · exact .keepLevels seekingUs_linkOnly seekingUs_sameSending _ _
  · exact .keepLevels idleUs_linkOnly idleUs_sameSending _ _
  · exact .keepLevels frameUs_linkOnly frameUs_sameSending _ _
  · exact .keepLevels frameUs_linkOnly frameUs_sameSending _ _

theorem Routine.usStep : Routine s (usStep s) := by
  have relay (u : State) : Routine u (relayUs u) := by
    unfold relayUs
    split
    · exact .refl u
    · exact .outside
  have reply (u : State) : Routine u (replyUs u) :=
    .ite fun _ => .of_bounds rfl rfl rfl rfl rfl ⟨id, .refl _, id, id, id⟩
  exact (Routine.linkUs.trans (relay _)).trans (reply _)

/-- A tick of a drive timer leaves the move (R54, R55, R57). -/
theorem driveTick_untimed (d : Drive) : (driveTick d).untimed = d.untimed := by cases d <;> rfl

theorem Routine.drivesTick : Routine s (drivesTick s) :=
  .after .outside (.onChannels (v := Vector.ofFn fun c => { s.channels[c] with drive := driveTick s.channels[c].drive })
    fun c => by
      rw [Fin.getElem_fin, Fin.getElem_fin, Vector.getElem_ofFn]
      exact ⟨rfl, rfl, rfl, driveTick_untimed _⟩)

theorem Routine.contactsTick : Routine s (contactsTick s) :=
  .after .outside (.onChannels (v := Vector.ofFn fun c => { s.channels[c] with
      count := nextCount s.channels[c].count (decide (s.pins.contacts.has c = s.channels[c].contact)) })
    fun c => by rw [Fin.getElem_fin, Fin.getElem_fin, Vector.getElem_ofFn]; exact ⟨rfl, rfl, rfl, rfl⟩)

/-- The supply's sample counts the restore timer alone (R62). -/
theorem Routine.supplyTick : Routine s (supplyTick s) := by
  unfold Machine.supplyTick
  split
  case h_5 => exact ⟨rfl, .refl _, rfl, rfl, rfl, fun _ => .refl _, .outside rfl rfl rfl rfl rfl⟩
  case h_6 => exact .refl s
  all_goals exact .outside

theorem Routine.samplersTick : Routine s (samplersTick s) := by
  have contacts : Routine s (if sampling s then Machine.contactsTick (Machine.supplyTick s) else s) :=
    .ite fun _ => Routine.supplyTick.trans .contactsTick
  have pistons (u : State) : Routine u (if pistonsSampled s then pistonsTick u else u) := .ite fun _ => .outside
  have shoe (u : State) : Routine u (if shoeSampled s then shoeTick u else u) := by
    unfold shoeTick
    refine .ite fun _ => ?_
    split <;> exact .outside
  exact (contacts.trans (pistons _)).trans (shoe _)

theorem Routine.msTick : Routine s (msTick s) := by
  have timers (u : State) : Routine u (timersTick u) :=
    .of_bounds rfl rfl rfl rfl rfl ⟨id, .same rfl rfl, id, id, id⟩
  have stalled (u : State) : Routine u (stallTick u) :=
    .ite fun _ => .of_bounds rfl rfl rfl rfl rfl ⟨id, .same rfl rfl, id, id, id⟩
  have stored (u : State) : Routine u (storeTick u) := by
    unfold storeTick
    split
    · exact .refl u
    · exact .of_bounds rfl rfl rfl rfl rfl ⟨id, .refl _, id, id, id⟩
  have started (u : State) : Routine u (startTick u) := .outside
  have stamped : Routine s { s with journal := { s.journal with timeTag := s.journal.timeTag + 1 } } :=
    .of_bounds rfl rfl rfl rfl rfl ⟨id, .refl _, id, id, id⟩
  exact stamped.trans (timers _) |>.trans (stalled _) |>.trans .samplersTick |>.trans .drivesTick |>.trans (stored _)
    |>.trans (started _)

theorem Routine.idle : Routine s (idle s) := by
  unfold Machine.idle
  split
  · exact .outside
  · unfold clockStep
    dsimp only
    split
    · exact .after .usStep .outside
    · exact .after .msTick .outside

end Sys2Proof.Machine
end

section
/-! PROOF. Which commands are routine: a command that neither lists, plans, moves nor closes anything, nor resets the
station, leaves the operations, the moves and the channels, up to a RESTART that a service command may bring. -/

namespace Sys2Proof.Machine

variable {s t : State}

/-- The commands that bring no reset, start, operation or move (a RESTART may come as the bytes of a service command). -/
def isRoutine : Instr → Bool
  | .coldReset | .loadEvent | .startUpCompletion | .debouncedChange _ _ | .supplyFirstSample _ | .supplyLoss
  | .supplyWaitStart | .supplyWaitAbandon | .restore | .pulseStart | .pulseEnd _ | .verify _ | .takeUpHead
  | .storingCaptureRetake | .fetchResult | .cancelFrame | .recallFrame | .captureFrame | .handsetFrame | .toggleFrame
  | .tuttiFrame | .stageFrame | .setterFrame | .levelFrame | .announceFrame => false
  | _ => true

/-- A routine event, or one that ends in a warm restart (R234). -/
def RoutineOrRestart (s t : State) : Prop := Routine s t ∨ ∃ u, Routine s u ∧ t = warmRestart u

theorem takeCommand_routine (c : ServiceCmd) : RoutineOrRestart s (takeCommand c s) := by
  by_cases hc : c = .restart
  · subst hc
    show RoutineOrRestart s (unlessStarting s (takeRestart s))
    unfold unlessStarting takeRestart
    split
    · exact .inl (.beginReply _ _)
    · split
      · exact .inr ⟨s, .refl s, rfl⟩
      · exact .inl (.beginReply _ _)
  · exact .inl (.takeCommand hc)

theorem endCommand_routine (spoilt : Bool) (bytes : List Byte) : RoutineOrRestart s (endCommand spoilt bytes s) := by
  have judged : Routine s { s with port := { s.port with assembly := [], bad := false, overlong := false } } :=
    .onPort fun _ => Nat.zero_le 72
  unfold endCommand
  dsimp only
  split
  · rcases takeCommand_routine (s := { s with port := { s.port with assembly := [], bad := false, overlong := false } })
      ‹_› with routine | ⟨u, routine, restarted⟩
    · exact .inl (judged.trans routine)
    · exact .inr ⟨u, judged.trans routine, restarted⟩
  · exact .inl (judged.trans (.beginReply _ _))

theorem serviceCommand_routine (body : List Byte) (e : serviceCommand body s = .next t) : RoutineOrRestart s t := by
  cases e
  split
  · exact endCommand_routine false _
  · exact .inl (.refl s)

theorem execFrameStart_routine (e : execFrameStart s = .next t) : Routine s t := by
  cases e
  refine .ite fun _ => ?_
  split
  · rename_i h hand
    exact .driveStart (List.Sublist.refl _) fun counted => counted h hand
  · rename_i f rest _ queued
    exact .driveStart (by rw [queued]; exact List.sublist_cons_self f rest) fun _ => Nat.zero_lt_succ 2
  · exact .refl s

theorem execFrameReceived_routine (f : WireFrame) (e : execFrameReceived f s = .next t) : Routine s t := by
  cases e
  refine .ite fun _ => ?_
  split
  · exact .ite fun _ => .frameWhole _ _ _
  · exact .frameWhole _ _ _
  · exact .refl s

theorem execFrameNotAccepted_routine (cause : StopCause) (e : execFrameNotAccepted cause s = .next t) :
    Routine s t := by
  cases e
  split
  · exact .refl s
  · split
    · exact .endObjected
    · exact .ite fun _ => .endVetoed _ _

theorem execBrokenFrame_routine (e : execBrokenFrame s = .next t) : Routine s t := by
  cases e
  split
  · exact .leaveFrame _
  · exact .after (.countAttempt _) (.leaveFrame _)
  · exact .refl s

theorem execLinkStall_routine (header : Option Byte) (e : execLinkStall header s = .next t) : Routine s t := by
  cases e
  split
  · exact .refl s
  · exact .takeStall header

theorem execStopWithoutDelivery_routine (e : execStopWithoutDelivery s = .next t) : Routine s t := by
  cases e
  split
  · exact .refl s
  · exact .ite fun _ => .leaveFrame _

theorem execGapTimerExpiry_routine (e : execGapTimerExpiry s = .next t) : RoutineOrRestart s t := by
  cases e
  split
  · exact endCommand_routine _ _
  · exact .inl (.onPort (fun h => h))
  · exact .inl (.refl s)

theorem execWriteComplete_routine (e : exec .writeComplete s = .next t) : Routine s t := by
  rcases exec_writeComplete_cases e with same | ⟨w, rest, -, -, ended⟩
  · rw [same]; exact .refl s
  · rw [ended]; exact .completeWrite w

theorem execStoreFault_routine (e : exec .storeFault s = .next t) : Routine s t := by
  rcases exec_storeFault_cases e with same | ⟨w, rest, -, -, ended⟩
  · rw [same]; exact .refl s
  · rw [ended]; exact .faultWrite w

/-- A routine command leaves the operations, the moves and the channels, or is a RESTART. -/
theorem exec_routine (c : Instr) (routine : isRoutine c = true) (e : exec c s = .next t) : RoutineOrRestart s t := by
  have service {body : List Byte} (hc : exec c s = serviceCommand body s) : RoutineOrRestart s t :=
    serviceCommand_routine body (hc.symm.trans e)
  cases c with
  | shiftEnd => cases e; exact .inl .outside
  | pistonPress i => cases e; exact .inl (.ite fun _ => .after (.takePress i) .outside)
  | pistonRelease i => cases e; exact .inl (.ite fun _ => .after (.ite fun _ => .handOver _) .outside)
  | sequenceEndTimerExpiry => cases e; exact .inl (.ite fun _ => .outside)
  | sampleEvent r => cases e; exact .inl (.ite fun _ => .takeSample r)
  | intervalTimerExpiry => cases e; exact .inl (.ite fun _ => .endInterval)
  | fetchServe => cases e; exact .inl (.ite fun _ => .serveFetch)
  | writeIssue => cases e; exact .inl .issueWrite
  | writeComplete => exact .inl (execWriteComplete_routine e)
  | storeFault => exact .inl (execStoreFault_routine e)
  | synchronise => cases e; exact .inl (.ite fun _ => .onLink (.same rfl rfl))
  | disturbance => cases e; exact .inl (.ite fun _ => .leaveFrame _)
  | frameStart => exact .inl (execFrameStart_routine e)
  | frameReceived f => exact .inl (execFrameReceived_routine f e)
  | stretchExpiry => cases e; exact .inl (.ite fun _ => .onLink s.link.withdrawHold_boundsKept)
  | frameNotAccepted cause => exact .inl (execFrameNotAccepted_routine cause e)
  | linkFaultTimerExpiry => cases e; exact .inl (.ite fun _ => .onLink (.same rfl rfl))
  | brokenFrame => exact .inl (execBrokenFrame_routine e)
  | linkStall header => exact .inl (execLinkStall_routine header e)
  | serviceByteArrival b framed => cases e; exact .inl (.onPort (Port.arrival_assembly_length b framed))
  | gapTimerExpiry => exact execGapTimerExpiry_routine e
  | ident => exact service rfl
  | status group => exact service rfl
  | channels => exact service rfl
  | journal k => exact service rfl
  | slotRead level slot => exact service rfl
  | slotWrite level slot data => exact service rfl
  | imageRead offset length => exact service rfl
  | imageWrite offset data => exact service rfl
  | serviceLock level state => exact service rfl
  | restart => exact service rfl
  | replyEnd => cases e; exact .inl (.ite fun _ => .onPort (fun h => h))
  | flashTimerExpiry f =>
    cases e
    split <;> exact .inl .outside
  | startReceiving => cases e; exact .inl (.ite fun _ => .onLink (.same rfl rfl))
  | arbitrationLost => cases e; exact .inl (.ite fun _ => .onLink (.same rfl rfl))
  | stopWithoutDelivery => exact .inl (execStopWithoutDelivery_routine e)
  | _ => cases routine

end Sys2Proof.Machine
end

section
/-! PROOF. The capacities of the Sequencer, and the commands that list, plan, move or start: every queue, list and count
stays within its bound; O4 (R22, R38, R79, R97, R163, R168–R170, R201, R226). -/

namespace Sys2Proof.Machine

variable {s t : State}

/-! ### What keeps the capacities -/

/-- The operation list and the fault list of the DRIVING operation stay within their bounds (R22, R38). -/
structure Sequencer.BoundsKept (q r : Sequencer) : Prop where
  list : q.list.length ≤ 8 → r.list.length ≤ 8
  faults : (∀ d, q.driving = some d → d.counts.faultList.length ≤ 4) →
    ∀ d, r.driving = some d → d.counts.faultList.length ≤ 4

theorem Sequencer.BoundsKept.refl (q : Sequencer) : q.BoundsKept q := ⟨id, id⟩

theorem Sequencer.BoundsKept.trans {q r u : Sequencer} (h : q.BoundsKept r) (k : r.BoundsKept u) : q.BoundsKept u :=
  ⟨k.list ∘ h.list, k.faults ∘ h.faults⟩

/-- A change of the list that does not lengthen it. -/
theorem Sequencer.BoundsKept.withList {q : Sequencer} {l : List OpEntry} (h : q.list.length ≤ 8 → l.length ≤ 8) :
    q.BoundsKept { q with list := l } := ⟨h, id⟩

theorem Sequencer.SameOperations.boundsKept {q r : Sequencer} (h : q.SameOperations r) : q.BoundsKept r := by
  refine ⟨fun room => h.length.trans_le room, fun counted d hd => ?_⟩
  have same : q.driving.map (fun d => d.counts) = some d.counts := by rw [← h.counts, hd]; rfl
  obtain ⟨x, hx, counts⟩ := Option.map_eq_some_iff.1 same
  rw [← counts]
  exact counted x hx

/-- Every queue, list and count stays within its bound. -/
structure CapacitiesKept (s t : State) : Prop where
  ops : s.ops.BoundsKept t.ops
  bounds : BoundsKept s t

theorem CapacitiesKept.refl (s : State) : CapacitiesKept s s := ⟨.refl _, .refl s⟩

theorem CapacitiesKept.trans {u : State} (h : CapacitiesKept s t) (k : CapacitiesKept t u) : CapacitiesKept s u :=
  ⟨h.ops.trans k.ops, h.bounds.trans k.bounds⟩

theorem CapacitiesKept.after {u : State} (k : CapacitiesKept t u) (h : CapacitiesKept s t) : CapacitiesKept s u :=
  h.trans k

theorem CapacitiesKept.ite {p : Prop} [Decidable p] (h : p → CapacitiesKept s t) :
    CapacitiesKept s (if p then t else s) := by
  split
  · exact h ‹p›
  · exact .refl s

theorem Routine.capacitiesKept (h : Routine s t) : CapacitiesKept s t := ⟨h.ops.boundsKept, h.bounds⟩

/-- A change of the Sequencer, of what moves, and of what has no bound. -/
theorem CapacitiesKept.of_ops (ops : s.ops.BoundsKept t.ops) (store : t.store = s.store) (link : t.link = s.link)
    (cresc : t.cresc = s.cresc) (port : t.port = s.port) (held : t.journal.held = s.journal.held) :
    CapacitiesKept s t :=
  ⟨ops, by rw [store]; exact id, link ▸ .refl _, by rw [cresc]; exact id, by rw [port]; exact id, by rw [held]; exact id⟩

theorem CapacitiesKept.withinCapacities (k : CapacitiesKept s t) (h : WithinCapacities s) : WithinCapacities t := by
  obtain ⟨list, writes, queue, ring, assembly, held, hand, faults⟩ := h
  exact ⟨k.ops.list list, k.bounds.writes writes, k.bounds.link.queue queue, k.bounds.ring ring,
    k.bounds.assembly assembly, k.bounds.held held, k.bounds.link.hand hand, k.ops.faults faults⟩

/-! ### Counts and closings -/

/-- Counting the DRIVING operation keeps its fault list within 4 where the count does (R38). -/
theorem CapacitiesKept.countDriving {f : Counts → Counts} (hf : ∀ k, k.faultList.length ≤ 4 → (f k).faultList.length ≤ 4) :
    CapacitiesKept s (countDriving f s) := by
  refine .of_ops ⟨id, fun counted d hd => ?_⟩ rfl rfl rfl rfl (by rw [countDriving_journal])
  obtain ⟨x, hx, rfl⟩ := Option.map_eq_some_iff.1 hd
  exact hf _ (counted x hx)

/-- A STUCK channel enters the fault list while that holds fewer than 4 (R38). -/
theorem Counts.addFault_length (c : Chan) (k : Counts) (h : k.faultList.length ≤ 4) :
    (k.addFault c).faultList.length ≤ 4 := by
  unfold Counts.addFault
  split
  · rename_i room
    rw [List.length_append]
    exact room
  · exact h

theorem CapacitiesKept.countDone (n : Nat) : CapacitiesKept s (countDone n s) := by
  induction n generalizing s with
  | zero => exact .refl _
  | succ n ih => exact .after ih (.countDriving fun _ h => h)

theorem CapacitiesKept.closeDriving (st : RecState) : CapacitiesKept s (closeDriving st s) :=
  .of_ops ⟨id, fun _ _ h => (nomatch h)⟩ rfl rfl rfl rfl (by rw [closeDriving_journal])

theorem CapacitiesKept.closingCheck : CapacitiesKept s (closingCheck s) := by
  unfold Machine.closingCheck
  split
  · exact .refl s
  · exact .closeDriving _

/-! ### The operation list -/

/-- An operation is appended where the list has room, pruned or not (R26, R28). -/
theorem CapacitiesKept.appendOperation (body : OpBody) (origin : Station) (aff : ChanSet)
    (room : s.ops.list.length < 8) : CapacitiesKept s (appendOperation body origin aff s) := by
  have opened : Routine s (openRecord body origin s).1 := by
    unfold openRecord
    split
    · exact .refl s
    · exact .writeRecord _
  have fewer (l : List OpEntry) : (pruneList aff l).1.length ≤ l.length := by
    have split := (pruneList_perm aff l).length_eq
    rw [List.length_append] at split
    omega
  have place : (openRecord body origin s).1.ops.list.length < 8 := opened.ops.length.trans_lt room
  refine CapacitiesKept.after (Routine.closeAll _ _).capacitiesKept (opened.capacitiesKept.trans ⟨.withList fun _ => ?_, .outside rfl rfl rfl rfl rfl⟩)
  rw [List.length_append]
  split
  · exact place
  · exact (Nat.succ_le_succ (fewer _)).trans place

theorem CapacitiesKept.considerFrame (mark : Mark) (header : Byte) (m : Msg) :
    CapacitiesKept s (considerFrame mark header m s) := by
  unfold Machine.considerFrame
  split
  · exact .refl s
  · split
    · exact .refl s
    · split
      · rename_i room; exact .appendOperation _ _ _ room
      · exact (Routine.reportFault _ _ _ _ _).capacitiesKept

/-- The head leaves the list (R22, R91). -/
theorem CapacitiesKept.leaveList : CapacitiesKept s (leaveList s) :=
  ⟨.withList fun room => (List.tail_sublist _).length_le.trans room, ⟨id, s.link.withdrawHold_boundsKept, id, id, id⟩⟩

/-- The head is changed. -/
theorem CapacitiesKept.setHead (e : OpEntry) : CapacitiesKept s (setHead e s) := by
  refine .of_ops (.withList fun room => ?_) rfl rfl rfl rfl rfl
  rw [List.length_cons, List.length_tail]
  omega

theorem CapacitiesKept.askFetch (e : OpEntry) (l : Fin 256) (k : Fin 128) : CapacitiesKept s (askFetch e l k s) := by
  unfold Machine.askFetch
  split
  · exact .after (Routine.requestFetch _).capacitiesKept (.setHead _)
  · exact .setHead _

theorem CapacitiesKept.issueWaitingRecall : CapacitiesKept s (issueWaitingRecall s) := by
  unfold Machine.issueWaitingRecall
  split
  · exact .refl s
  · split
    · exact .ite fun _ => .askFetch _ _ _
    · exact .refl s

/-- A plan takes the head off the list, and the new DRIVING operation has no fault yet (R34–R38). -/
theorem CapacitiesKept.plan (e : OpEntry) (target : Chan → Bool) : CapacitiesKept s (plan e target s) := by
  rw [plan_eq]
  refine ⟨⟨fun room => (List.tail_sublist _).length_le.trans room, fun _ d hd => ?_⟩,
    ⟨id, s.link.withdrawHold_boundsKept, id, id, fun h => ?_⟩⟩
  · rw [plan_ops] at hd
    dsimp only at hd
    split at hd
    · cases hd; exact Nat.zero_le 4
    · cases hd
  · rw [plan_journal_frame]; exact h

theorem CapacitiesKept.takeCapture (e : OpEntry) (l : Fin 256) (k : Fin 128) :
    CapacitiesKept s (takeCapture e l k s) := by
  unfold Machine.takeCapture
  split
  · rename_i entered; exact (Routine.enterWrite entered).capacitiesKept.trans .leaveList
  · exact .setHead _

theorem CapacitiesKept.takeUp (e : OpEntry) : CapacitiesKept s (takeUp e s) := by
  unfold Machine.takeUp
  split
  · exact .askFetch _ _ _
  · exact .takeCapture _ _ _
  · exact .plan _ _

theorem CapacitiesKept.deliverFetch (req : FetchReq) (bytes : List Byte) :
    CapacitiesKept s (deliverFetch req bytes s) := by
  have failed (l : Fin 256) (k : Fin 128) : CapacitiesKept s (failRecall l k s) :=
    .after .leaveList (Routine.after (.closeRecord _ _ _) (.reportFault _ _ _ _ _)).capacitiesKept
  unfold Machine.deliverFetch recallOutcome
  split
  · split
    · exact .refl s
    · refine .ite fun _ => ?_
      split
      · exact .plan _ _
      · exact .plan _ _
      · exact failed _ _
  · exact (Routine.beginReply _ _).capacitiesKept
  · exact (Routine.beginReply _ _).capacitiesKept

/-! ### Channels and drive -/

/-- A channel's record has no bound. -/
theorem CapacitiesKept.setChannel (c : Chan) (x : Channel) : CapacitiesKept s (setChannel c x s) :=
  .of_ops (.refl _) rfl rfl rfl rfl rfl

theorem CapacitiesKept.handMove (c : Chan) (on : Bool) : CapacitiesKept s (handMove c on s) := by
  have removed (u : State) : CapacitiesKept u (removeMove c u) := .of_ops (.refl _) rfl rfl rfl rfl rfl
  have recomposed (u : State) : CapacitiesKept u (recompose u) := .of_ops (.refl _) rfl rfl rfl rfl rfl
  unfold Machine.handMove
  dsimp only
  refine .after (Routine.handOver _).capacitiesKept (.after (recomposed _) ?_)
  split
  · exact .after .closingCheck (.after (.countDriving fun _ h => h) (.after (removed _) (.setChannel _ _)))
  · exact .setChannel _ _

theorem CapacitiesKept.litPress (c : Chan) : CapacitiesKept s (litPress c s) :=
  .after (Routine.handOver _).capacitiesKept (.of_ops (.refl _) rfl rfl rfl rfl rfl)

theorem CapacitiesKept.debouncedChange (c : Chan) (on : Bool) : CapacitiesKept s (debouncedChange c on s) := by
  have recomposed (x : Channel) : CapacitiesKept s (recompose (Machine.setChannel c x s)) :=
    .of_ops (.refl _) rfl rfl rfl rfl rfl
  unfold Machine.debouncedChange
  dsimp only
  split
  · exact .setChannel _ _
  · exact recomposed _
  · unfold workingChange
    dsimp only
    split
    · exact recomposed _
    · unfold movedChange
      dsimp only
      split
      · exact .handMove _ _
      · exact .handMove _ _
      · exact .setChannel _ _
    · split
      · exact .litPress _
      · exact .setChannel _ _

theorem CapacitiesKept.verifyMove (c : Chan) (dir : Bool) (a : Attempt) : CapacitiesKept s (verifyMove c dir a s) := by
  have moved (m : Move) (x : Channel) : CapacitiesKept s (appendMove m (Machine.setChannel c x s)) :=
    .of_ops (.refl _) rfl rfl rfl rfl rfl
  have recomposed (x : Channel) : CapacitiesKept s (recompose (Machine.setChannel c x s)) :=
    .of_ops (.refl _) rfl rfl rfl rfl rfl
  unfold Machine.verifyMove
  dsimp only
  split
  · exact .after .closingCheck (.after (.countDriving fun _ h => h) (.setChannel _ _))
  · split
    · split
      · exact .after (.countDriving fun _ h => h) (moved _ _)
      · exact .after .closingCheck (.after (Routine.reportFault _ _ _ _ _).capacitiesKept
          (.after (.countDriving (Counts.addFault_length c)) (recomposed _)))
    · exact moved _ _

theorem CapacitiesKept.restoreSupply : CapacitiesKept s (restoreSupply s) := by
  have restored : CapacitiesKept s { s with
      channels := Vector.ofFn (fun c => restoredChannel s.channels[c])
      drive := { queue := reentered s ++ s.drive.queue, supply := .present, restore := none } } :=
    .of_ops (.refl _) rfl rfl rfl rfl rfl
  rw [restoreSupply_eq]
  exact .after .closingCheck (.after (Routine.reportFault _ _ _ _ _).capacitiesKept (restored.trans (.countDone _)))

/-! ### Deliveries -/

theorem CapacitiesKept.toSequencer (mark : Mark) (header : Byte) (m : Msg) :
    CapacitiesKept s (toSequencer mark header m s) := .ite fun _ => .considerFrame _ _ _

theorem CapacitiesKept.acceptFrame (kind : Nat) : CapacitiesKept s (acceptFrame kind s) := by
  obtain ⟨u, v, heard, through, ended⟩ := acceptFrame_routine kind s
  refine .after ended.capacitiesKept (.after ?_ heard.capacitiesKept)
  rcases through with rfl | ⟨mark, header, n, rfl⟩
  · exact .refl _
  · exact .toSequencer _ _ _

/-! ### Resets and start-up -/

/-- Every block at its reset values holds nothing; the journal stands as it was (R220). -/
theorem resetBlocks_capacitiesKept (s : State) : CapacitiesKept s (resetBlocks s) where
  ops := ⟨fun _ => Nat.zero_le 8, fun _ _ h => (nomatch h)⟩
  bounds := ⟨fun _ => Nat.zero_le 8, ⟨fun _ => Nat.zero_le 16, fun _ _ h => (nomatch h), fun _ => List.nodup_nil⟩,
    fun _ => Nat.zero_le 4, fun _ => Nat.zero_le 72, id⟩

theorem coldReset_capacitiesKept (s : State) : CapacitiesKept s (coldReset s) where
  ops := (resetBlocks_capacitiesKept s).ops
  bounds := { (resetBlocks_capacitiesKept s).bounds with held := fun _ => Nat.zero_le 32 }

theorem warmRestart_capacitiesKept (s : State) : CapacitiesKept s (warmRestart s) := by
  have dropped : CapacitiesKept s (dropOperations s) := .after (.closeDriving _) (Routine.closeAll _ _).capacitiesKept
  have reset := dropped.trans (resetBlocks_capacitiesKept (dropOperations s))
  exact ⟨reset.ops, { reset.bounds with assembly := fun _ => Nat.zero_le 72 }⟩

theorem CapacitiesKept.load : CapacitiesKept s (load s) := by
  unfold Machine.load
  dsimp only
  split
  · exact ⟨.refl _, id, .refl _, id, id, id⟩
  · refine .after (Routine.after .loadCalibration .loadLocks).capacitiesKept ?_
    unfold loadImage
    refine .trans (t := reportClamped _ _) (.after (Routine.reportClamped _).capacitiesKept ?_)
      (.of_ops (.refl _) rfl rfl rfl rfl rfl)
    exact ⟨.refl _, id, .refl _, id, id, id⟩

theorem CapacitiesKept.complete : CapacitiesKept s (complete s) := by
  have entered (mode : Mode) (flash : Option Flash) : CapacitiesKept s (modeEntered s mode flash) :=
    ⟨.refl _, id, .same rfl rfl, id, id, id⟩
  rw [complete_eq]
  refine .after Routine.announceRun.capacitiesKept ?_
  cases safe : s.start.safe
  · rw [enterMode_run safe]; exact entered _ _
  · rw [enterMode_safe safe]; exact entered _ _

/-! ### The commands -/

/-- Every command keeps the capacities and the classes of the transmit queue. -/
theorem exec_capacitiesKept (c : Instr) (e : exec c s = .next t) : CapacitiesKept s t := by
  by_cases routine : isRoutine c = true
  · rcases exec_routine c routine e with kept | ⟨u, kept, rfl⟩
    · exact kept.capacitiesKept
    · exact kept.capacitiesKept.trans (warmRestart_capacitiesKept u)
  have bare {u : State} (h : u = { s with channels := u.channels, drive := u.drive }) : CapacitiesKept s u := by
    rw [h]; exact .of_ops (.refl _) rfl rfl rfl rfl rfl
  cases c with
  | coldReset => cases e; exact coldReset_capacitiesKept s
  | loadEvent => cases e; exact .ite fun _ => .load
  | startUpCompletion => cases e; exact .ite fun _ => .complete
  | debouncedChange c on => cases e; exact .ite fun _ => .debouncedChange c on
  | supplyFirstSample high =>
    cases e
    refine .ite fun _ => ?_
    split
    · exact bare rfl
    · exact .after (Routine.reportFault _ _ _ _ _).capacitiesKept (bare rfl)
  | supplyLoss =>
    cases e
    exact .ite fun _ => .after (Routine.reportFault _ _ _ _ _).capacitiesKept (bare (by unfold holdMoves; rfl))
  | supplyWaitStart => cases e; exact .ite fun _ => bare rfl
  | supplyWaitAbandon => cases e; exact .ite fun _ => bare rfl
  | restore => cases e; exact .ite fun _ => .restoreSupply
  | pulseStart =>
    cases e
    split
    · exact .refl s
    · exact .ite fun _ => bare rfl
  | pulseEnd c =>
    cases e
    split
    · exact .setChannel _ _
    · exact .refl s
  | verify c =>
    cases e
    split
    · exact .verifyMove _ _ _
    · exact .refl s
  | takeUpHead =>
    cases e
    split
    · exact .refl s
    · exact .ite fun _ => .takeUp _
  | storingCaptureRetake =>
    cases e
    split
    · exact .refl s
    · split
      · exact .takeCapture _ _ _
      · exact .refl s
  | fetchResult =>
    cases e
    split
    · exact .refl s
    · split
      · exact .refl s
      · have freed : CapacitiesKept s (fetchFreed s) := ⟨.refl _, id, .refl _, id, id, id⟩
        exact .after .issueWaitingRecall
          (.after (.deliverFetch _ _) freed)
  | cancelFrame => cases e; exact .acceptFrame 0
  | recallFrame => cases e; exact .acceptFrame 1
  | captureFrame => cases e; exact .acceptFrame 2
  | handsetFrame => cases e; exact .acceptFrame 3
  | toggleFrame => cases e; exact .acceptFrame 4
  | tuttiFrame => cases e; exact .acceptFrame 5
  | stageFrame => cases e; exact .acceptFrame 6
  | setterFrame => cases e; exact .acceptFrame 7
  | levelFrame => cases e; exact .acceptFrame 8
  | announceFrame => cases e; exact .acceptFrame 9
  | _ => exact absurd rfl routine

/-- Settles O4: a step runs the front command, or the station goes on by itself; either keeps every bound. -/
theorem stepKeepsCapacities : Obligations.StepKeepsCapacities := by
  unfold Obligations.StepKeepsCapacities
  intro s t e
  have kept : CapacitiesKept s t := by
    unfold step at e
    split at e
    · exact (Routine.outside (s := s)).capacitiesKept.trans (exec_capacitiesKept _ e)
    · cases e; exact Routine.idle.capacitiesKept
  exact ⟨kept.withinCapacities, kept.bounds.link.classes⟩

end Sys2Proof.Machine
end

section
/-! PROOF. The law of the coil drive taken apart: what it asks of each channel and its queue entry, what keeps it, and how
one channel's change keeps it (R36, R49, R51, R63–R65, R67). -/

namespace Sys2Proof.Machine

variable {s t : State}

/-! ### The parts of the law -/

/-- What the law asks of the record of channel c beside the pending-move queue (R49, R51, R63, R64). -/
structure Channel.Lawful (q : List Move) (c : Chan) (x : Channel) : Prop where
  queued : x.drive = .queued ↔ c ∈ q.map (fun m => m.chan)
  moved : x.drive ≠ .idle → x.type = .moved
  toward : ∀ m ∈ q, m.chan = c → x.registered = m.dir ∧ x.contact ≠ m.dir
  held : ∀ dir a, x.drive = .held dir a → x.registered = dir

/-- The pending-move queue and the channels agree (R49, R51, R63, R64). -/
structure MovesLawful (s : State) : Prop where
  distinct : (queuedChans s).Nodup
  channel : ∀ c : Chan, s.channels[c].Lawful s.drive.queue c

theorem movesLawful_iff (s : State) : MovesLawful s ↔ QueueMatchesChannels s ∧ MovesTowardTarget s := by
  constructor
  · rintro ⟨distinct, channel⟩
    exact ⟨⟨distinct, fun c => (channel c).queued, fun c => (channel c).moved⟩,
      fun m hm => (channel m.chan).toward m hm rfl, fun c => (channel c).held⟩
  · rintro ⟨⟨distinct, queued, moved⟩, toward, held⟩
    exact ⟨distinct, fun c => ⟨queued c, moved c, fun m hm hc => hc ▸ toward m hm, held c⟩⟩

theorem working_eq_false_iff (s : State) : working s = false ↔ s.view.mode ≠ .run ∧ s.view.mode ≠ .listen := by
  simp [working]

theorem anyOutstanding_eq_false_iff (s : State) :
    anyOutstanding s = false ↔ ∀ c : Chan, s.channels[c].drive = .idle := by
  simp [anyOutstanding, Drive.outstanding]

/-- A channel that is not IDLE is outstanding (R48). -/
theorem anyOutstanding_of_drive {c : Chan} (h : s.channels[c].drive ≠ .idle) : anyOutstanding s = true := by
  rw [← Bool.not_eq_false, anyOutstanding_eq_false_iff]
  exact fun idle => h (idle c)

/-- The law of the drive by its independent parts: a station at rest has an empty queue and no DRIVING operation because its
channels are IDLE. -/
structure DriveFacts (s : State) : Prop where
  list : working s = false → s.ops.list = []
  idle : working s = false → ∀ c : Chan, s.channels[c].drive = .idle
  moves : MovesLawful s
  limit : WithinDriveLimit s
  driving : s.ops.driving.isSome = anyOutstanding s

/-- With an operation in its list the station is in RUN or LISTEN (R24). -/
theorem DriveFacts.working_of_list (h : DriveFacts s) (hl : s.ops.list ≠ []) : working s = true := by
  rw [← Bool.not_eq_false]
  exact fun rest => hl (h.list rest)

/-! ### What keeps the law -/

theorem Channel.Lawful.of_sameMove {q : List Move} {c : Chan} {x y : Channel} (h : x.Lawful q c) (k : x.SameMove y) :
    y.Lawful q c := by
  have drive (d : Drive) (hd : ∀ e : Drive, e.untimed = d ↔ e = d) : y.drive = d ↔ x.drive = d := by
    rw [← hd, k.drive, hd]
  refine ⟨(drive _ Drive.untimed_eq_queued_iff).trans h.queued, fun hy => k.type.trans (h.moved fun hx => hy ?_),
    fun m hm hc => ?_, fun dir a hy => k.registered.trans (h.held dir a ?_)⟩
  · exact (drive _ Drive.untimed_eq_idle_iff).2 hx
  · rw [k.registered, k.contact]; exact h.toward m hm hc
  · exact (drive _ fun e => e.untimed_eq_held_iff dir a).1 hy

/-- A condition that fewer channels meet counts no more. -/
theorem countChans_le {f g : Chan → Bool} (h : ∀ c, g c = true → f c = true) : countChans g ≤ countChans f :=
  (List.monotone_filter_right _ h).length_le

/-- Where no coil comes on and no move becomes held, the drive stays within its limit (R51, R63, R65). -/
theorem WithinDriveLimit.of_fewer (h : WithinDriveLimit s) (limit : t.params.p = s.params.p)
    (supply : t.drive.supply = s.drive.supply)
    (energized : ∀ c : Chan, t.channels[c].drive.isEnergized = true → s.channels[c].drive.isEnergized = true)
    (held : ∀ c : Chan, t.channels[c].drive.isHeld = true → s.channels[c].drive.isHeld = true) :
    WithinDriveLimit t := by
  obtain ⟨within, unpowered, powered⟩ := h
  have energizedLess : energizedCount t ≤ energizedCount s := countChans_le energized
  have heldLess : heldCount t ≤ heldCount s := countChans_le held
  unfold WithinDriveLimit
  rw [limit, supply]
  exact ⟨(Nat.add_le_add energizedLess heldLess).trans within, fun off => Nat.le_zero.1 (energizedLess.trans (unpowered off).le),
    fun on => Nat.le_zero.1 (heldLess.trans (powered on).le)⟩

/-- A routine event keeps the law. -/
theorem DriveFacts.of_routine (h : DriveFacts s) (k : Routine s t) : DriveFacts t := by
  have energized (c : Chan) : t.channels[c].drive.isEnergized = s.channels[c].drive.isEnergized := by
    rw [← Drive.isEnergized_untimed, (k.channel c).drive, Drive.isEnergized_untimed]
  have held (c : Chan) : t.channels[c].drive.isHeld = s.channels[c].drive.isHeld := by
    rw [← Drive.isHeld_untimed, (k.channel c).drive, Drive.isHeld_untimed]
  have idle (c : Chan) : t.channels[c].drive = .idle ↔ s.channels[c].drive = .idle := by
    rw [← Drive.untimed_eq_idle_iff, (k.channel c).drive, Drive.untimed_eq_idle_iff]
  refine ⟨fun rest => ?_, fun rest c => (idle c).2 (h.idle (k.working ▸ rest) c), ⟨?_, fun c => ?_⟩,
    h.limit.of_fewer k.limit k.supply (fun c => by rw [energized c]; exact id) (fun c => by rw [held c]; exact id), ?_⟩
  · have empty := k.ops.length
    rw [h.list (k.working ▸ rest)] at empty
    exact List.length_eq_zero_iff.1 empty
  · unfold queuedChans; rw [k.queue]; exact h.moves.distinct
  · rw [k.queue]; exact (h.moves.channel c).of_sameMove (k.channel c)
  · have some := congrArg Option.isSome k.ops.counts
    rw [Option.isSome_map, Option.isSome_map] at some
    have outstanding : anyOutstanding t = anyOutstanding s := by
      rw [Bool.eq_iff_iff, ← not_iff_not, Bool.not_eq_true, Bool.not_eq_true, anyOutstanding_eq_false_iff,
        anyOutstanding_eq_false_iff]
      exact forall_congr' idle
    rw [some, outstanding]
    exact h.driving

/-- A change of the operation list, which is empty outside RUN and LISTEN (R24). -/
theorem DriveFacts.relisted (h : DriveFacts s) {l : List OpEntry} (list : working s = false → l = []) :
    DriveFacts { s with ops := { s.ops with list := l } } :=
  ⟨list, h.idle, ⟨h.moves.distinct, h.moves.channel⟩, h.limit, h.driving⟩

/-- A station without operation and move, and with every channel IDLE, meets the law (R46, R70). -/
theorem DriveFacts.of_rest (list : s.ops.list = []) (none : s.ops.driving = none) (queue : s.drive.queue = [])
    (idle : ∀ c : Chan, s.channels[c].drive = .idle) : DriveFacts s := by
  have energized : energizedCount s = 0 := countChans_none fun c => by rw [idle c]; rfl
  have held : heldCount s = 0 := countChans_none fun c => by rw [idle c]; rfl
  refine ⟨fun _ => list, fun _ => idle, ⟨?_, fun c => ?_⟩, ⟨by rw [energized, held]; exact Nat.zero_le _, fun _ => energized,
    fun _ => held⟩, by rw [none, (anyOutstanding_eq_false_iff s).2 idle]; rfl⟩
  · unfold queuedChans; rw [queue]; exact List.nodup_nil
  · rw [queue]
    refine ⟨?_, fun busy => absurd (idle c) busy, fun m hm => (nomatch hm), fun dir a hd => ?_⟩
    all_goals rw [idle c] at *
    · exact iff_of_false (fun hx => nomatch hx) (List.not_mem_nil)
    · cases hd

/-- A station at rest has no operation, no move and no channel outstanding (R24, R70). -/
theorem DriveFacts.atRest (h : DriveFacts s) (rest : working s = false) :
    s.ops.list = [] ∧ s.ops.driving = none ∧ s.drive.queue = [] ∧ ∀ c : Chan, s.channels[c].drive = .idle := by
  have none : s.ops.driving.isSome = false := h.driving.trans ((anyOutstanding_eq_false_iff s).2 (h.idle rest))
  refine ⟨h.list rest, by simpa using none, List.eq_nil_iff_forall_not_mem.2 fun m hm => ?_, h.idle rest⟩
  have queued := (h.moves.channel m.chan).queued.2 (List.mem_map_of_mem hm)
  rw [h.idle rest m.chan] at queued
  cases queued

theorem driveLaw_iff (s : State) : DriveLaw s ↔ DriveFacts s := by
  constructor
  · rintro ⟨rest, queue, toward, limit, driving⟩
    have atRest (h : working s = false) := rest ((working_eq_false_iff s).1 h).1 ((working_eq_false_iff s).1 h).2
    exact ⟨fun h => (atRest h).1, fun h => (atRest h).2.2.2, (movesLawful_iff s).2 ⟨queue, toward⟩, limit, driving⟩
  · intro h
    obtain ⟨queue, toward⟩ := (movesLawful_iff s).1 h.moves
    exact ⟨fun run listen => h.atRest ((working_eq_false_iff s).2 ⟨run, listen⟩), queue, toward, h.limit, h.driving⟩

/-! ### One channel changes -/

/-- The record of channel c is x, and of what the law looks at only the queue and the DRIVING operation may differ
besides. -/
structure ChannelChanged (c : Chan) (x : Channel) (s t : State) : Prop where
  working : working t = working s
  list : s.ops.list = [] → t.ops.list = []
  channels : t.channels = s.channels.set c x
  limit : t.params.p = s.params.p
  supply : t.drive.supply = s.drive.supply

theorem ChannelChanged.at {c : Chan} {x : Channel} (k : ChannelChanged c x s t) : t.channels[c] = x := by
  simp [k.channels]

theorem ChannelChanged.other {c d : Chan} {x : Channel} (k : ChannelChanged c x s t) (h : d ≠ c) :
    t.channels[d] = s.channels[d] := by
  rw [k.channels]; exact setChannel_other h x s

/-- The other channels keep their entries, and this one's record fits the queue as it is then (R49, R50). -/
theorem MovesLawful.changed {c : Chan} {x : Channel} (h : MovesLawful s) (k : ChannelChanged c x s t)
    (distinct : (queuedChans t).Nodup)
    (others : ∀ m : Move, m.chan ≠ c → (m ∈ t.drive.queue ↔ m ∈ s.drive.queue)) (own : x.Lawful t.drive.queue c) :
    MovesLawful t := by
  refine ⟨distinct, fun d => ?_⟩
  by_cases hd : d = c
  · subst hd
    rw [k.at]; exact own
  · rw [k.other hd]
    obtain ⟨queued, moved, toward, held⟩ := h.channel d
    refine ⟨queued.trans ?_, moved, fun m hm hmd => toward m ((others m (hmd ▸ hd)).1 hm) hmd, held⟩
    simp only [List.mem_map]
    refine exists_congr fun m => and_congr_left fun hmd => (others m ?_).symm
    rw [hmd]; exact hd

/-- One channel's change keeps the law where neither its coil comes on nor its move becomes held (R51, R63). -/
theorem DriveFacts.changed {c : Chan} {x : Channel} (h : DriveFacts s) (k : ChannelChanged c x s t)
    (moves : MovesLawful t) (rest : Machine.working s = false → x.drive = .idle)
    (energized : x.drive.isEnergized = true → s.channels[c].drive.isEnergized = true)
    (held : x.drive.isHeld = true → s.channels[c].drive.isHeld = true)
    (driving : t.ops.driving.isSome = anyOutstanding t) : DriveFacts t := by
  have fewer {p : Drive → Bool} (own : p x.drive = true → p s.channels[c].drive = true) (d : Chan)
      (hd : p t.channels[d].drive = true) : p s.channels[d].drive = true := by
    by_cases same : d = c
    · subst same; rw [k.at] at hd; exact own hd
    · rwa [k.other same] at hd
  refine ⟨fun outside => k.list (h.list (k.working ▸ outside)), fun outside d => ?_, moves,
    h.limit.of_fewer k.limit k.supply (fewer energized) (fewer held), driving⟩
  by_cases same : d = c
  · subst same; rw [k.at]; exact rest (k.working ▸ outside)
  · rw [k.other same]; exact h.idle (k.working ▸ outside) d

/-- A channel without a queued move has no entry in the queue (R49). -/
theorem Channel.Lawful.not_mem {q : List Move} {c : Chan} {x : Channel} (h : x.Lawful q c) (hx : x.drive ≠ .queued) :
    ∀ m ∈ q, m.chan ≠ c :=
  fun m hm hc => hx (h.queued.2 (List.mem_map.2 ⟨m, hm, hc⟩))

/-- The record of a channel without a queued move fits a queue without an entry for it. -/
theorem Channel.Lawful.unqueued {q : List Move} {c : Chan} {x : Channel} (none : ∀ m ∈ q, m.chan ≠ c)
    (hx : x.drive ≠ .queued) (moved : x.drive ≠ .idle → x.type = .moved)
    (held : ∀ dir a, x.drive = .held dir a → x.registered = dir) : x.Lawful q c := by
  refine ⟨iff_of_false hx fun hc => ?_, moved, fun m hm hc => absurd hc (none m hm), held⟩
  obtain ⟨m, hm, hmc⟩ := List.mem_map.1 hc
  exact none m hm hmc

/-- A move appended at the tail, toward the registered state and away from the contact (R49, R50). -/
theorem Channel.Lawful.appended {q : List Move} {m : Move} {x : Channel} (none : ∀ n ∈ q, n.chan ≠ m.chan)
    (hx : x.drive = .queued) (type : x.type = .moved) (registered : x.registered = m.dir) (contact : x.contact ≠ m.dir) :
    x.Lawful (q ++ [m]) m.chan := by
  refine ⟨iff_of_true hx (by simp), fun _ => type, fun n hn hc => ?_, fun dir a hd => nomatch hx.symm.trans hd⟩
  rcases List.mem_append.1 hn with old | new
  · exact absurd hc (none n old)
  · rw [List.mem_singleton.1 new]
    exact ⟨registered, contact⟩

/-- The closing check leaves an operation DRIVING exactly while a channel is outstanding (R67). -/
theorem closingCheck_driving (h : anyOutstanding s = true → s.ops.driving.isSome = true) :
    (closingCheck s).ops.driving.isSome = anyOutstanding (closingCheck s) := by
  rw [anyOutstanding_congr (closingCheck_channels s)]
  unfold closingCheck
  split
  · rename_i outstanding; rw [outstanding]; exact h outstanding
  · rename_i none; rw [Bool.not_eq_true] at none; rw [none]; rfl

/-- An operation is DRIVING while this channel is outstanding, and counting leaves it so (R36, R38). -/
theorem DriveFacts.isSome_of_drive (h : DriveFacts s) {c : Chan} (hc : s.channels[c].drive ≠ .idle) :
    s.ops.driving.isSome = true := h.driving.trans (anyOutstanding_of_drive hc)

end Sys2Proof.Machine
end

section
/-! PROOF. Channels, coils and plans keep the law of the drive (R5–R10, R34–R37, R49–R67). -/

namespace Sys2Proof.Machine

variable {s t : State}

/-! ### Debounced changes -/

theorem Drive.outstanding_untimed (d : Drive) : d.untimed.outstanding = d.outstanding := by cases d <;> rfl

/-- A channel's contact or registered state changes, and its drive state does not but for its timers (R5, R6, R8, R10). -/
theorem DriveFacts.recorded {c : Chan} {x : Channel} (h : DriveFacts s) (type : x.type = s.channels[c].type)
    (drive : x.drive.untimed = s.channels[c].drive.untimed) (unqueued : s.channels[c].drive ≠ .queued)
    (held : ∀ dir a, s.channels[c].drive = .held dir a → x.registered = dir) : DriveFacts (setChannel c x s) := by
  have same (d : Drive) (hd : ∀ e : Drive, e.untimed = d ↔ e = d) : x.drive = d ↔ s.channels[c].drive = d := by
    rw [← hd, drive, hd]
  have idle := same _ Drive.untimed_eq_idle_iff
  have queued := same _ Drive.untimed_eq_queued_iff
  have own : x.Lawful s.drive.queue c :=
    .unqueued ((h.moves.channel c).not_mem unqueued) (fun hx => unqueued (queued.1 hx))
      (fun hx => type.trans ((h.moves.channel c).moved fun hs => hx (idle.2 hs)))
      (fun dir a hx => held dir a ((same _ fun e => e.untimed_eq_held_iff dir a).1 hx))
  have outstanding : anyOutstanding (setChannel c x s) = anyOutstanding s := by
    unfold anyOutstanding
    refine congrArg (fun f => (List.finRange 48).any f) (funext fun d => ?_)
    by_cases hd : d = c
    · subst hd
      rw [Fin.getElem_fin, setChannel_at, ← Drive.outstanding_untimed, drive, Drive.outstanding_untimed]
    · rw [Fin.getElem_fin, setChannel_other hd]; rfl
  refine h.changed ⟨rfl, id, rfl, rfl, rfl⟩
    (h.moves.changed ⟨rfl, id, rfl, rfl, rfl⟩ h.moves.distinct (fun _ _ => Iff.rfl) own)
    (fun rest => idle.2 (h.idle rest c)) ?_ ?_ (h.driving.trans outstanding.symm)
  · rw [← Drive.isEnergized_untimed, drive, Drive.isEnergized_untimed]; exact id
  · rw [← Drive.isHeld_untimed, drive, Drive.isHeld_untimed]; exact id

/-- An IDLE channel's record changes beside its drive state. -/
theorem DriveFacts.recordedIdle {c : Chan} {x : Channel} (h : DriveFacts s) (type : x.type = s.channels[c].type)
    (idle : s.channels[c].drive = .idle) (drive : x.drive = s.channels[c].drive) : DriveFacts (setChannel c x s) := by
  refine h.recorded type (by rw [drive]) ?_ ?_
  all_goals rw [idle]
  · exact fun hx => nomatch hx
  · exact fun _ _ hx => nomatch hx

/-- A channel that is not MOVED is IDLE (R51). -/
theorem DriveFacts.idle_of_type (h : DriveFacts s) {c : Chan} (hc : s.channels[c].type ≠ .moved) :
    s.channels[c].drive = .idle := by
  by_contra hd
  exact hc ((h.moves.channel c).moved hd)

/-- A hand move ends a queued move, and the closing check follows (R7, R38, R67). -/
theorem handMove_driveFacts (h : DriveFacts s) {c : Chan} (on : Bool)
    (hc : s.channels[c].drive = .idle ∨ s.channels[c].drive = .queued) : DriveFacts (handMove c on s) := by
  unfold handMove
  dsimp only
  refine DriveFacts.of_routine ?_ (.after (.handOver _) .outside)
  split
  · rename_i queued
    have changed : ChannelChanged c { s.channels[c].follow on with drive := .idle } s
        (closingCheck (countDriving Counts.addYielded (removeMove c
          (setChannel c { s.channels[c].follow on with drive := .idle } s)))) :=
      ⟨by simp [working], fun hl => by simp [closingCheck_ops, countDriving, hl], by simp, by simp, by simp⟩
    refine h.changed changed (h.moves.changed changed ?_ ?_ ?_) (fun _ => rfl) (fun hx => nomatch hx)
      (fun hx => nomatch hx) (closingCheck_driving fun _ => ?_)
    · exact h.moves.distinct.sublist (by simpa [queuedChans] using List.filter_sublist.map _)
    · intro m hm
      simp [hm]
    · refine .unqueued ?_ (fun hx => nomatch hx) (fun hx => absurd rfl hx) (fun _ _ hx => nomatch hx)
      simp
    · simpa [countDriving] using h.isSome_of_drive (c := c) (by rw [queued]; exact fun hx => nomatch hx)
  · rename_i unqueued
    have idle := hc.resolve_right unqueued
    exact h.recordedIdle rfl idle idle.symm

/-- The overdrive and the early end of a pulse are no new pulse (R54, R55). -/
theorem overdriven_cases (tover : Nat) (on : Bool) (d : Drive) :
    (overdriven tover on d).untimed = d.untimed
      ∨ ∃ dir a, d.isEnergized = true ∧ overdriven tover on d = .settling dir a 0 := by
  unfold overdriven
  split
  · split
    · split
      · exact .inr ⟨_, _, rfl, rfl⟩
      · exact .inl rfl
    · exact .inl rfl
  · exact .inl rfl

/-- An ENERGIZED channel that settles keeps the law (R54, R55). -/
theorem settle_driveFacts (h : DriveFacts s) {c : Chan} {x : Channel} (type : x.type = s.channels[c].type)
    (was : s.channels[c].drive.isEnergized = true) (dir : Bool) (a : Attempt) (settles : x.drive = .settling dir a 0) :
    DriveFacts (setChannel c x s) := by
  have busy : s.channels[c].drive ≠ .idle := fun hx => by rw [hx] at was; cases was
  have none := (h.moves.channel c).not_mem fun hx => by rw [hx] at was; cases was
  have own : x.Lawful s.drive.queue c := by
    refine .unqueued none ?_ (fun _ => type.trans ((h.moves.channel c).moved busy)) ?_
    all_goals rw [settles]
    · exact fun hx => nomatch hx
    · exact fun _ _ hx => nomatch hx
  refine h.changed ⟨rfl, id, rfl, rfl, rfl⟩
    (h.moves.changed ⟨rfl, id, rfl, rfl, rfl⟩ h.moves.distinct (fun _ _ => Iff.rfl) own)
    (fun rest => absurd (h.idle rest c) busy) ?_ ?_ ?_
  · rw [settles]; exact fun hx => nomatch hx
  · rw [settles]; exact fun hx => nomatch hx
  · rw [anyOutstanding_of_drive (s := setChannel c x s) (c := c)]
    · exact h.isSome_of_drive busy
    · rw [Fin.getElem_fin, setChannel_at, settles]
      exact fun hx => nomatch hx

theorem movedChange_driveFacts (h : DriveFacts s) (c : Chan) (on : Bool) : DriveFacts (movedChange c on s) := by
  unfold movedChange
  dsimp only
  split
  · rename_i idle; exact handMove_driveFacts h on (.inl idle)
  · rename_i queued; exact handMove_driveFacts h on (.inr queued)
  · rename_i unmoved unqueued
    rcases overdriven_cases s.params.tover on s.channels[c].drive with same | ⟨dir, a, energized, settles⟩
    · refine h.recorded ?_ same unqueued (h.moves.channel c).held
      rfl
    · refine settle_driveFacts h ?_ energized dir a settles
      rfl

theorem debouncedChange_driveFacts (h : DriveFacts s) (c : Chan) (on : Bool) :
    DriveFacts (debouncedChange c on s) := by
  have followed (idle : s.channels[c].drive = .idle) : DriveFacts (setChannel c (s.channels[c].follow on) s) := by
    refine h.recordedIdle ?_ idle ?_ <;> rfl
  have touched (idle : s.channels[c].drive = .idle) : DriveFacts (setChannel c (s.channels[c].withContact on) s) := by
    refine h.recordedIdle ?_ idle ?_ <;> rfl
  unfold debouncedChange
  dsimp only
  split
  · rename_i starting
    have idle := h.idle (by simp [working, starting]) c
    split
    · exact followed idle
    · exact touched idle
  · rename_i safe
    exact (followed (h.idle (by simp [working, safe]) c)).of_routine .outside
  · unfold workingChange
    dsimp only
    split
    · rename_i plain
      exact (followed (h.idle_of_type (by rw [plain]; exact fun hx => nomatch hx))).of_routine .outside
    · exact movedChange_driveFacts h c on
    · rename_i lit
      have idle := h.idle_of_type (c := c) (by rw [lit]; exact fun hx => nomatch hx)
      split
      · unfold litPress
        have pressed : DriveFacts (setChannel c
            { s.channels[c].withContact true with registered := !s.channels[c].registered } s) := by
          refine h.recordedIdle ?_ idle ?_ <;> rfl
        exact pressed.of_routine (.after (.handOver _) .outside)
      · exact touched idle

/-! ### Pulses -/

/-- A pulse that starts takes the head of the queue and comes on within the limit (R51, R52). -/
theorem startPulse_driveFacts (h : DriveFacts s) {m : Move} {rest : List Move} (queue : s.drive.queue = m :: rest)
    (start : canStartPulse s = true) : DriveFacts (startPulse m s) := by
  obtain ⟨-, room, present⟩ := (canStartPulse_iff s).1 start
  have queued : s.channels[m.chan].drive = .queued := by
    rw [(h.moves.channel m.chan).queued, queue]
    exact List.mem_cons_self
  have busy : s.channels[m.chan].drive ≠ .idle := by rw [queued]; exact fun hx => nomatch hx
  have left : (startPulse m s).drive.queue = rest := congrArg List.tail queue
  have distinct : (m.chan :: rest.map (fun m => m.chan)).Nodup := by
    have all := h.moves.distinct
    unfold queuedChans at all
    rwa [queue] at all
  have changed : ChannelChanged m.chan { s.channels[m.chan] with drive := .energized m.dir m.attempt 0 none } s
      (startPulse m s) := ⟨rfl, id, rfl, rfl, rfl⟩
  have own (d : Chan) (hd : d = m.chan) : (startPulse m s).channels[d].drive = .energized m.dir m.attempt 0 none := by
    subst hd
    rw [changed.at]
  have counted : energizedCount s + 1 = energizedCount (startPulse m s) := by
    refine countChans_drop (c := m.chan) ?_ ?_ fun d hd => ?_
    · rw [own _ rfl]; rfl
    · rw [queued]; rfl
    · rw [changed.other hd]
  have noneHeld : heldCount (startPulse m s) = 0 := by
    obtain ⟨-, -, powered⟩ := h.limit
    rw [← Nat.le_zero, ← powered (.inl present)]
    refine countChans_le fun d hd => ?_
    by_cases same : d = m.chan
    · rw [own d same] at hd; cases hd
    · rwa [changed.other same] at hd
  have limit : WithinDriveLimit (startPulse m s) := by
    refine ⟨?_, fun off => absurd present off, fun _ => noneHeld⟩
    rw [noneHeld, ← counted]
    exact room
  refine ⟨h.list, fun outside d => ?_, h.moves.changed changed ?_ (fun n hn => ?_) ?_, limit, ?_⟩
  · exact absurd (h.idle outside m.chan) busy
  · unfold queuedChans; rw [left]; exact distinct.of_cons
  · rw [left, queue, List.mem_cons, or_iff_right]
    rintro rfl
    exact hn rfl
  · refine .unqueued (fun n hn same => ?_) (fun hx => nomatch hx) (fun _ => (h.moves.channel m.chan).moved busy)
      (fun _ _ hx => nomatch hx)
    rw [left] at hn
    exact distinct.notMem (same ▸ List.mem_map_of_mem hn)
  · rw [anyOutstanding_of_drive (c := m.chan) (by rw [own _ rfl]; exact fun hx => nomatch hx)]
    exact h.isSome_of_drive busy

/-! ### Verifies -/

/-- A verify that ends the move: the channel is IDLE and the closing check is made (R57, R60, R67). -/
theorem moveEnded_driveFacts (h : DriveFacts s) {c : Chan} {x : Channel} (unqueued : s.channels[c].drive ≠ .queued)
    (busy : s.channels[c].drive ≠ .idle) (idle : x.drive = .idle) {u : State} (changed : ChannelChanged c x s u)
    (queue : u.drive.queue = s.drive.queue) (driving : u.ops.driving.isSome = s.ops.driving.isSome) :
    DriveFacts (closingCheck u) := by
  have closed : ChannelChanged c x s (closingCheck u) :=
    ⟨by rw [← changed.working]; simp [working], fun hl => by rw [closingCheck_ops]; exact changed.list hl,
      by simp [changed.channels], by simp [changed.limit], by simp [changed.supply]⟩
  have same : (closingCheck u).drive.queue = s.drive.queue := by rw [closingCheck_drive, queue]
  have own : x.Lawful (closingCheck u).drive.queue c := by
    rw [same]
    refine .unqueued ((h.moves.channel c).not_mem unqueued) ?_ (fun hx => absurd idle hx) ?_
    all_goals rw [idle]
    · exact fun hx => nomatch hx
    · exact fun _ _ hx => nomatch hx
  refine h.changed closed (h.moves.changed closed ?_ (fun m _ => by rw [same]) own) (fun _ => idle) ?_ ?_
    (closingCheck_driving fun _ => driving.trans (h.isSome_of_drive busy))
  · unfold queuedChans; rw [same]; exact h.moves.distinct
  · rw [idle]; exact fun hx => nomatch hx
  · rw [idle]; exact fun hx => nomatch hx

/-- A verify that queues the channel again: a move toward the registered state at the tail (R58, R59). -/
theorem moveQueued_driveFacts (h : DriveFacts s) {m : Move} (unqueued : s.channels[m.chan].drive ≠ .queued)
    (busy : s.channels[m.chan].drive ≠ .idle) (registered : s.channels[m.chan].registered = m.dir)
    (away : s.channels[m.chan].contact ≠ m.dir) :
    DriveFacts (appendMove m (setChannel m.chan { s.channels[m.chan] with drive := .queued } s)) := by
  have none := (h.moves.channel m.chan).not_mem unqueued
  have changed : ChannelChanged m.chan { s.channels[m.chan] with drive := .queued } s
      (appendMove m (setChannel m.chan { s.channels[m.chan] with drive := .queued } s)) := ⟨rfl, id, rfl, rfl, rfl⟩
  refine h.changed changed (h.moves.changed changed ?_ (fun n hn => ?_) ?_)
    (fun rest => absurd (h.idle rest m.chan) busy) (fun hx => nomatch hx) (fun hx => nomatch hx) ?_
  · have appended : queuedChans (appendMove m (setChannel m.chan { s.channels[m.chan] with drive := .queued } s))
        = queuedChans s ++ [m.chan] := List.map_append
    rw [appended, List.nodup_append]
    refine ⟨h.moves.distinct, List.nodup_singleton _, fun d hd e he same => ?_⟩
    obtain ⟨n, hn, rfl⟩ := List.mem_map.1 hd
    exact none n hn (same.trans (List.mem_singleton.1 he))
  · rw [appendMove_drive, List.mem_append, setChannel_drive, or_iff_left]
    exact fun hm => hn (congrArg Move.chan (List.mem_singleton.1 hm))
  · exact .appended none rfl ((h.moves.channel m.chan).moved busy) registered away
  · rw [anyOutstanding_of_drive (c := m.chan)]
    · exact h.isSome_of_drive busy
    · rw [changed.at]
      exact fun hx => nomatch hx

/-- Counting the DRIVING operation keeps the law (R38). -/
theorem countDriving_driveFacts (h : DriveFacts s) (f : Counts → Counts) : DriveFacts (countDriving f s) :=
  ⟨h.list, h.idle, ⟨h.moves.distinct, h.moves.channel⟩, h.limit, (Option.isSome_map).trans h.driving⟩

theorem verifyMove_driveFacts (h : DriveFacts s) {c : Chan} {dir : Bool} {a : Attempt} {n : Nat}
    (settling : s.channels[c].drive = .settling dir a n) : DriveFacts (verifyMove c dir a s) := by
  have unqueued : s.channels[c].drive ≠ .queued := by rw [settling]; exact fun hx => nomatch hx
  have busy : s.channels[c].drive ≠ .idle := by rw [settling]; exact fun hx => nomatch hx
  unfold verifyMove
  dsimp only
  split
  · exact moveEnded_driveFacts (x := { s.channels[c] with drive := .idle, fault := false }) h unqueued busy rfl
      ⟨rfl, id, rfl, rfl, rfl⟩ rfl Option.isSome_map
  · rename_i away
    split
    · rename_i same
      split
      · exact countDriving_driveFacts (moveQueued_driveFacts (m := ⟨c, dir, .second⟩) h unqueued busy same
          fun arrived => away (arrived.trans same.symm)) _
      · refine moveEnded_driveFacts
          (x := { s.channels[c] with drive := .idle, registered := s.channels[c].contact, fault := true }) h unqueued busy
          rfl ⟨rfl, fun hl => ?_, rfl, rfl, rfl⟩ rfl ?_
        · show List.map _ s.ops.list = []
          rw [hl]; rfl
        · show Option.isSome (Option.map _ (Option.map _ s.ops.driving)) = _
          rw [Option.isSome_map, Option.isSome_map]
    · exact moveQueued_driveFacts (m := ⟨c, s.channels[c].registered, .first⟩) h unqueued busy rfl away

/-! ### The supply -/

/-- What the law looks at is as before but for the supply state, and that asks no less (R62). -/
theorem DriveFacts.withSupply (h : DriveFacts s) (x : Supply) (timer : Option Nat)
    (powered : x = .present ∨ x = .unsampled → heldCount s = 0) (unpowered : x ≠ .present → energizedCount s = 0) :
    DriveFacts (setSupply x timer s) := by
  obtain ⟨within, -, -⟩ := h.limit
  exact ⟨h.list, h.idle, ⟨h.moves.distinct, h.moves.channel⟩, ⟨within, unpowered, powered⟩, h.driving⟩

theorem countChans_eq_zero_iff (f : Chan → Bool) : countChans f = 0 ↔ ∀ c, f c = false := by
  refine ⟨fun none c => ?_, countChans_none⟩
  unfold countChans at none
  rw [List.length_eq_zero_iff, List.filter_eq_nil_iff] at none
  simpa using none c (List.mem_finRange c)

theorem heldDrive_eq_idle_iff (x : Channel) : heldDrive x = .idle ↔ x.drive = .idle := by
  unfold heldDrive; split <;> simp [*]

theorem heldDrive_eq_queued_iff (x : Channel) : heldDrive x = .queued ↔ x.drive = .queued := by
  unfold heldDrive; split <;> simp [*]

/-- A loss holds the energized moves toward their registered states (R63). -/
theorem heldDrive_registered {x : Channel} (old : ∀ dir a, x.drive = .held dir a → x.registered = dir) (dir : Bool)
    (a : Attempt) (hd : heldDrive x = .held dir a) : x.registered = dir := by
  unfold heldDrive at hd
  split at hd
  · exact (Drive.held.inj hd).1
  · exact old dir a hd

theorem heldDrive_isHeld {x : Channel} (unheld : x.drive.isHeld = false) :
    (heldDrive x).isHeld = x.drive.isEnergized := by
  unfold heldDrive
  split
  · rename_i energized; rw [energized]; rfl
  · rename_i other
    rw [unheld]
    cases hd : x.drive with
    | energized dir a p o => exact absurd hd (other dir a p o)
    | _ => rfl

/-- A supply loss while PRESENT: as many moves are held as coils were energized (R63, R65). -/
theorem movesHeld_driveFacts (h : DriveFacts s) (present : s.drive.supply = .present) {v : Vector Channel 48}
    (at' : ∀ c : Chan, v[c] = { s.channels[c] with drive := heldDrive s.channels[c] }) :
    DriveFacts (setSupply .lost none { s with channels := v }) := by
  obtain ⟨within, -, powered⟩ := h.limit
  have held : heldCount (setSupply .lost none { s with channels := v }) = energizedCount s := by
    have unheld := (countChans_eq_zero_iff _).1 (powered (.inl present))
    refine congrArg countChans (funext fun c => ?_)
    rw [setSupply_channels, at']
    exact heldDrive_isHeld (unheld c)
  have energized : energizedCount (setSupply .lost none { s with channels := v }) = 0 :=
    countChans_none fun c => by rw [setSupply_channels, at']; exact heldDrive_isEnergized _
  refine ⟨h.list, fun outside c => ?_, ⟨h.moves.distinct, fun c => ?_⟩, ⟨?_, fun _ => energized, ?_⟩, ?_⟩
  · rw [setSupply_channels, at']; exact (heldDrive_eq_idle_iff _).2 (h.idle outside c)
  · obtain ⟨queued, moved, toward, old⟩ := h.moves.channel c
    rw [setSupply_channels, at']
    exact ⟨(heldDrive_eq_queued_iff _).trans queued, fun busy => moved fun hd => busy ((heldDrive_eq_idle_iff _).2 hd),
      toward, heldDrive_registered old⟩
  · rw [held, energized, Nat.zero_add]
    exact (Nat.le_add_right _ _).trans within
  · exact fun lost => lost.elim (fun hx => nomatch hx) (fun hx => nomatch hx)
  · refine h.driving.trans ?_
    rw [Bool.eq_iff_iff, ← not_iff_not, Bool.not_eq_true, Bool.not_eq_true, anyOutstanding_eq_false_iff,
      anyOutstanding_eq_false_iff]
    refine forall_congr' fun c => ?_
    rw [setSupply_channels, at']
    exact (heldDrive_eq_idle_iff _).symm

/-- The restore leaves no move held: the verified ones are done, the others queued (R66). -/
theorem restoredChannel_isHeld (x : Channel) : (restoredChannel x).drive.isHeld = false := by
  cases held : x.drive.isHeld
  · rw [restoredChannel_of_not_held held]; exact held
  · by_cases arrived : x.contact = x.registered
    · rw [restoredChannel_arrived held arrived]; rfl
    · rw [restoredChannel_pending held arrived]; rfl

/-- A channel is outstanding after the restore only where it was before (R66). -/
theorem restoredChannel_idle {x : Channel} (h : x.drive = .idle) : (restoredChannel x).drive = .idle := by
  rw [restoredChannel_of_not_held (by rw [h]; rfl)]; exact h

/-- A restored channel fits the queue with the held moves before the head (R49, R66). -/
theorem restoredChannel_lawful (h : MovesLawful s) (c : Chan) :
    (restoredChannel s.channels[c]).Lawful (reentered s ++ s.drive.queue) c := by
  have lawful := h.channel c
  have mem (q : List Move) : c ∈ (q ++ s.drive.queue).map (fun m => m.chan)
      ↔ (∃ m ∈ q, m.chan = c) ∨ c ∈ s.drive.queue.map (fun m => m.chan) := by
    rw [List.map_append, List.mem_append, List.mem_map]
  have reenters (m : Move) (hm : m ∈ reentered s) (hc : m.chan = c) :
      s.channels[c].drive = .held m.dir m.attempt ∧ s.channels[c].contact ≠ s.channels[c].registered :=
    hc ▸ (mem_reentered_iff s m).1 hm
  cases held : s.channels[c].drive.isHeld
  · have none (m : Move) (hm : m ∈ reentered s) (hc : m.chan = c) : False := by
      rw [(reenters m hm hc).1] at held; cases held
    rw [restoredChannel_of_not_held held]
    refine ⟨?_, lawful.moved, fun m hm hc => ?_, lawful.held⟩
    · rw [mem, or_iff_right fun ⟨m, hm, hc⟩ => none m hm hc]
      exact lawful.queued
    · exact lawful.toward m ((List.mem_append.1 hm).resolve_left fun new => none m new hc) hc
  · obtain ⟨dir, a, hd⟩ : ∃ dir a, s.channels[c].drive = .held dir a := by
      cases hd : s.channels[c].drive with
      | held dir a => exact ⟨dir, a, rfl⟩
      | _ => rw [hd] at held; cases held
    have unqueued : s.channels[c].drive ≠ .queued := by rw [hd]; exact fun hx => nomatch hx
    have type : s.channels[c].type = .moved := lawful.moved (by rw [hd]; exact fun hx => nomatch hx)
    have old := lawful.not_mem unqueued
    by_cases arrived : s.channels[c].contact = s.channels[c].registered
    · rw [restoredChannel_arrived held arrived]
      refine .unqueued (fun m hm hc => ?_) (fun hx => nomatch hx) (fun hx => absurd rfl hx) (fun _ _ hx => nomatch hx)
      rcases List.mem_append.1 hm with new | queued
      · exact (reenters m new hc).2 arrived
      · exact old m queued hc
    · rw [restoredChannel_pending held arrived]
      have entry : (⟨c, dir, a⟩ : Move) ∈ reentered s := (mem_reentered_iff s _).2 ⟨hd, arrived⟩
      refine ⟨iff_of_true rfl ((mem _).2 (.inl ⟨_, entry, rfl⟩)), fun _ => type, fun m hm hc => ?_,
        fun _ _ hx => nomatch hx⟩
      have new := (List.mem_append.1 hm).resolve_right fun queued => old m queued hc
      have toward := lawful.held _ _ (reenters m new hc).1
      exact ⟨toward, fun hx => arrived (hx.trans toward.symm)⟩

theorem restoreSupply_driveFacts (h : DriveFacts s) (waiting : s.drive.supply = .waiting) :
    DriveFacts (restoreSupply s) := by
  obtain ⟨within, unpowered, -⟩ := h.limit
  have energized : energizedCount (restoreSupply s) = 0 := by
    have none := (countChans_eq_zero_iff _).1 (unpowered (by rw [waiting]; exact fun hx => nomatch hx))
    refine countChans_none fun c => ?_
    rw [restoreSupply_at, restoredChannel]
    split
    · rfl
    · split
      · rfl
      · exact none c
  have held : heldCount (restoreSupply s) = 0 :=
    countChans_none fun c => by rw [restoreSupply_at]; exact restoredChannel_isHeld _
  have works : working (restoreSupply s) = working s := by rw [restoreSupply_frame]; rfl
  refine ⟨fun outside => ?_, fun outside c => ?_, ⟨?_, fun c => ?_⟩, ⟨?_, fun off => ?_, fun _ => held⟩, ?_⟩
  · rw [restoreSupply_ops, Sequencer.dropRef, h.list (works ▸ outside)]; rfl
  · rw [restoreSupply_at]; exact restoredChannel_idle (h.idle (works ▸ outside) c)
  · have chans : queuedChans (restoreSupply s) = (reentered s).map (fun m => m.chan) ++ queuedChans s := by
      unfold queuedChans
      rw [restoreSupply_drive, List.map_append]
    rw [chans, List.nodup_append]
    refine ⟨(reentered_ascending s).imp fun hlt => hlt.ne, h.moves.distinct, fun c hc d hd same => ?_⟩
    obtain ⟨m, hm, rfl⟩ := List.mem_map.1 hc
    obtain ⟨waits, -⟩ := (mem_reentered_iff s m).1 hm
    have queued := (h.moves.channel m.chan).queued.2 (same ▸ hd)
    exact nomatch waits.symm.trans queued
  · rw [restoreSupply_at, restoreSupply_drive]; exact restoredChannel_lawful h.moves c
  · rw [energized, held]; exact Nat.zero_le _
  · rw [restoreSupply_drive] at off; exact absurd rfl off
  · rw [restoreSupply_ops]
    dsimp only
    split
    · rename_i outstanding
      rw [outstanding, Option.isSome_map, h.driving, ← Bool.not_eq_false]
      intro none
      have idle := (anyOutstanding_eq_false_iff s).1 none
      refine absurd outstanding (Bool.eq_false_iff.1 ((anyOutstanding_eq_false_iff _).2 fun c => ?_))
      rw [restoreSupply_at]; exact restoredChannel_idle (idle c)
    · rename_i none
      rw [Bool.not_eq_true] at none
      rw [none]; rfl

/-! ### Plans -/

/-- A plan touches the entry of its channel alone (R34, R50). -/
theorem mem_plannedQueue_other {c : Chan} (x : Channel) (target : Bool) (q : List Move) {m : Move} (hm : m.chan ≠ c) :
    m ∈ plannedQueue c x target q ↔ m ∈ q := by
  unfold plannedQueue
  split
  · split
    · exact Iff.rfl
    · rw [List.mem_append, List.mem_singleton, or_iff_left]
      rintro rfl
      exact hm rfl
  · split
    · simp [hm]
    · rw [List.mem_map]
      constructor
      · rintro ⟨n, hn, rfl⟩
        split at hm
        · exact absurd rfl hm
        · rename_i other; rwa [if_neg other]
      · exact fun h => ⟨m, h, if_neg hm⟩
  · exact Iff.rfl

/-- A plan gives no channel a second entry (R49, R50). -/
theorem plannedQueue_distinct {c : Chan} {x : Channel} {q : List Move} (h : x.Lawful q c) (target : Bool)
    (distinct : (q.map (fun m => m.chan)).Nodup) : ((plannedQueue c x target q).map (fun m => m.chan)).Nodup := by
  unfold plannedQueue
  split
  · rename_i idle
    split
    · exact distinct
    · rw [List.map_append, List.nodup_append]
      refine ⟨distinct, List.nodup_singleton _, fun d hd e he same => ?_⟩
      obtain rfl : d = c := same.trans (List.mem_singleton.1 he)
      exact nomatch idle.symm.trans (h.queued.2 hd)
  · split
    · exact distinct.sublist (List.filter_sublist.map _)
    · have kept : (fun m : Move => (if m.chan = c then (⟨c, target, .first⟩ : Move) else m).chan) = fun m => m.chan := by
        funext m
        split
        · rename_i own; exact own.symm
        · rfl
      rw [List.map_map, Function.comp_def, kept]
      exact distinct
  · exact distinct

/-- The pending-move queue once a channel is planned, whatever its type (R34). -/
def queuePlanned (c : Chan) (x : Channel) (target : Bool) (q : List Move) : List Move :=
  if x.type = .moved then plannedQueue c x target q else q

/-- A planned MOVED channel fits the queue planned with it, by its drive state (R34, R49). -/
theorem plannedChannel_moved_lawful {c : Chan} {x : Channel} {q : List Move} (h : x.Lawful q c) (type : x.type = .moved)
    (target : Bool) : (plannedChannel x target).Lawful (plannedQueue c x target q) c := by
  have planned : plannedChannel x target =
      { x with fault := false, registered := target, drive := plannedDrive x target } := by
    unfold plannedChannel; rw [type]
  rw [planned]
  unfold plannedQueue plannedDrive
  cases hd : x.drive with
  | idle =>
    have none := h.not_mem (by rw [hd]; exact fun hx => nomatch hx)
    dsimp only
    split
    · exact .unqueued none (fun hx => nomatch hx) (fun hx => absurd rfl hx) (fun _ _ hx => nomatch hx)
    · rename_i away
      exact .appended (m := ⟨c, target, .first⟩) none rfl type rfl away
  | queued =>
    dsimp only
    split
    · exact .unqueued (fun m hm => by simpa using (List.mem_filter.1 hm).2) (fun hx => nomatch hx)
        (fun hx => absurd rfl hx) (fun _ _ hx => nomatch hx)
    · rename_i away
      obtain ⟨m, hm, own⟩ := List.mem_map.1 (h.queued.1 hd)
      refine ⟨iff_of_true rfl (List.mem_map.2 ⟨⟨c, target, .first⟩, List.mem_map.2 ⟨m, hm, if_pos own⟩, rfl⟩),
        fun _ => type, fun n hn same => ?_, fun _ _ hx => nomatch hx⟩
      obtain ⟨old, -, rfl⟩ := List.mem_map.1 hn
      split at same
      · rw [if_pos ‹_›]; exact ⟨rfl, away⟩
      · contradiction
  | energized dir a p o =>
    exact .unqueued (h.not_mem (by rw [hd]; exact fun hx => nomatch hx)) (fun hx => nomatch hx) (fun _ => type)
      (fun _ _ hx => nomatch hx)
  | settling dir a n =>
    exact .unqueued (h.not_mem (by rw [hd]; exact fun hx => nomatch hx)) (fun hx => nomatch hx) (fun _ => type)
      (fun _ _ hx => nomatch hx)
  | held dir a =>
    have none := h.not_mem (by rw [hd]; exact fun hx => nomatch hx)
    dsimp only
    split
    · exact .unqueued none (fun hx => nomatch hx) (fun hx => absurd rfl hx) (fun _ _ hx => nomatch hx)
    · exact .unqueued none (fun hx => nomatch hx) (fun _ => type) (fun _ _ hx => (Drive.held.inj hx).1)

/-- A planned channel fits the planned queue: one that is not MOVED has no move at all (R34, R51). -/
theorem plannedChannel_lawful {c : Chan} {x : Channel} {q : List Move} (h : x.Lawful q c) (target : Bool) :
    (plannedChannel x target).Lawful (queuePlanned c x target q) c := by
  unfold queuePlanned
  split
  · rename_i type; exact plannedChannel_moved_lawful h type target
  · rename_i other
    have idle : x.drive = .idle := by
      by_contra busy
      exact other (h.moved busy)
    have drive : (plannedChannel x target).drive = .idle := by
      unfold plannedChannel
      split
      · exact idle
      · exact idle
      · contradiction
    refine .unqueued (h.not_mem (by rw [idle]; exact fun hx => nomatch hx)) ?_ (fun busy => absurd drive busy) ?_
    all_goals rw [drive]
    · exact fun hx => nomatch hx
    · exact fun _ _ hx => nomatch hx

theorem planChannel_movesLawful (h : MovesLawful s) (c : Chan) (target : Bool) :
    MovesLawful (planChannel c target s) := by
  have changed : ChannelChanged c (plannedChannel s.channels[c] target) s (planChannel c target s) :=
    ⟨rfl, id, rfl, rfl, rfl⟩
  have queue : (planChannel c target s).drive.queue = queuePlanned c s.channels[c] target s.drive.queue := rfl
  refine h.changed changed ?_ (fun m hm => ?_) ?_
  · unfold queuedChans
    rw [queue, queuePlanned]
    split
    · exact plannedQueue_distinct (h.channel c) target h.distinct
    · exact h.distinct
  · rw [queue, queuePlanned]
    split
    · exact mem_plannedQueue_other _ _ _ hm
    · exact Iff.rfl
  · rw [queue]; exact plannedChannel_lawful (h.channel c) target

/-- The channels are planned one after another, and each keeps queue and channels in agreement (R34, R49). -/
theorem planAll_movesLawful (aff : ChanSet) (target : Chan → Bool) (cs : List Chan) (h : MovesLawful s) :
    MovesLawful (planAll aff target cs s) := by
  induction cs generalizing s with
  | nil => exact h
  | cons c cs ih =>
    refine ih (s := if aff.has c then planChannel c (target c) s else s) ?_
    split
    · exact planChannel_movesLawful h c _
    · exact h

/-- A plan starts and ends no pulse (R34). -/
theorem plannedChannel_isEnergized (x : Channel) (target : Bool) :
    (plannedChannel x target).drive.isEnergized = x.drive.isEnergized := by
  unfold plannedChannel plannedDrive
  split
  · rfl
  · rfl
  · cases hd : x.drive with
    | energized _ _ _ _ => rfl
    | settling _ _ _ => rfl
    | _ => dsimp only; split <;> rfl

/-- A plan holds no move that was not held (R34). -/
theorem plannedChannel_isHeld (x : Channel) (target : Bool) (h : (plannedChannel x target).drive.isHeld = true) :
    x.drive.isHeld = true := by
  unfold plannedChannel plannedDrive at h
  split at h
  · exact h
  · exact h
  · cases hd : x.drive with
    | held _ _ => rfl
    | energized _ _ _ _ => rw [hd] at h; exact h
    | settling _ _ _ => rw [hd] at h; exact h
    | _ =>
      rw [hd] at h
      dsimp only at h
      split at h <;> cases h

theorem plan_driveFacts (h : DriveFacts s) (works : working s = true) (e : OpEntry) (target : Chan → Bool) :
    DriveFacts (plan e target s) := by
  have kept : working (plan e target s) = true := by rw [← works]; unfold working; rw [plan_view]
  have channels : (plan e target s).channels = (planAll e.affected target (List.finRange 48) s).channels := by
    unfold plan; simp
  have drive : (plan e target s).drive = (planAll e.affected target (List.finRange 48) s).drive := by
    unfold plan; simp
  have moves := planAll_movesLawful e.affected target (List.finRange 48) h.moves
  refine ⟨fun outside => (nomatch kept.symm.trans outside), fun outside => (nomatch kept.symm.trans outside),
    ⟨?_, fun c => ?_⟩, h.limit.of_fewer (by rw [plan_params]) (by rw [plan_drive]) (fun c hc => ?_) (fun c hc => ?_), ?_⟩
  · unfold queuedChans; rw [drive]; exact moves.distinct
  · rw [channels, drive]; exact moves.channel c
  · rw [Fin.getElem_fin, plan_channel] at hc
    split at hc
    · rwa [plannedChannel_isEnergized] at hc
    · exact hc
  · rw [Fin.getElem_fin, plan_channel] at hc
    split at hc
    · exact plannedChannel_isHeld _ _ hc
    · exact hc
  · rw [plan_ops]
    dsimp only
    split
    · rename_i outstanding; rw [outstanding]; rfl
    · rename_i none; rw [Bool.not_eq_true] at none; rw [none]; rfl

end Sys2Proof.Machine
end

section
/-! PROOF. The law of the coil drive through every step: the operation list, resets and start, the supply, and the commands
(R24, R36, R63, R67, R220–R224). -/

namespace Sys2Proof.Machine

variable {s t : State}

/-! ### The operation list -/

/-- In RUN and LISTEN the list may hold any operations (R24). -/
theorem DriveFacts.listed (h : DriveFacts s) (works : working s = true) (l : List OpEntry) :
    DriveFacts { s with ops := { s.ops with list := l } } :=
  h.relisted fun rest => nomatch works.symm.trans rest

theorem leaveList_driveFacts (h : DriveFacts s) : DriveFacts (leaveList s) := by
  have shorter := h.relisted (l := s.ops.list.tail) fun rest => by rw [h.list rest]; rfl
  exact shorter.of_routine (.onLink s.link.withdrawHold_boundsKept)

theorem askFetch_driveFacts (h : DriveFacts s) (works : working s = true) (e : OpEntry) (l : Fin 256) (k : Fin 128) :
    DriveFacts (askFetch e l k s) := by
  unfold askFetch
  split
  · exact (h.listed works _).of_routine (.requestFetch _)
  · exact h.listed works _

theorem issueWaitingRecall_driveFacts (h : DriveFacts s) : DriveFacts (issueWaitingRecall s) := by
  unfold issueWaitingRecall
  split
  · exact h
  · rename_i listed
    have works := h.working_of_list (by rw [listed]; exact List.cons_ne_nil _ _)
    split
    · split
      · exact askFetch_driveFacts h works _ _ _
      · exact h
    · exact h

theorem takeCapture_driveFacts (h : DriveFacts s) (works : working s = true) (e : OpEntry) (l : Fin 256) (k : Fin 128) :
    DriveFacts (takeCapture e l k s) := by
  unfold takeCapture
  split
  · rename_i entered; exact leaveList_driveFacts (h.of_routine (.enterWrite entered))
  · exact h.listed works _

theorem takeUp_driveFacts (h : DriveFacts s) (works : working s = true) (e : OpEntry) : DriveFacts (takeUp e s) := by
  unfold takeUp
  split
  · exact askFetch_driveFacts h works _ _ _
  · exact takeCapture_driveFacts h works _ _ _
  · exact plan_driveFacts h works _ _

theorem deliverFetch_driveFacts (h : DriveFacts s) (req : FetchReq) (bytes : List Byte) :
    DriveFacts (deliverFetch req bytes s) := by
  unfold deliverFetch
  split
  · split
    · exact h
    · rename_i listed
      have works := h.working_of_list (by rw [listed]; exact List.cons_ne_nil _ _)
      unfold recallOutcome
      split
      · split
        · exact plan_driveFacts h works _ _
        · exact plan_driveFacts h works _ _
        · exact leaveList_driveFacts (h.of_routine (.after (.closeRecord _ _ _) (.reportFault _ _ _ _ _)))
      · exact h
  · exact h.of_routine (.beginReply _ _)
  · exact h.of_routine (.beginReply _ _)

theorem appendOperation_driveFacts (h : DriveFacts s) (works : working s = true) (body : OpBody) (origin : Station)
    (aff : ChanSet) : DriveFacts (appendOperation body origin aff s) := by
  have opened : Routine s (openRecord body origin s).1 := by
    unfold openRecord
    split
    · exact .refl s
    · exact .writeRecord _
  exact DriveFacts.of_routine ((h.of_routine opened).listed (opened.working.trans works) _) (.closeAll _ _)

/-- A frame is handed to the Sequencer in RUN and LISTEN alone (R24, R198). -/
theorem toSequencer_driveFacts (h : DriveFacts s) (mark : Mark) (header : Byte) (m : Msg) :
    DriveFacts (toSequencer mark header m s) := by
  unfold toSequencer considerFrame
  split
  · rename_i works
    split
    · exact h
    · split
      · exact h
      · split
        · exact appendOperation_driveFacts h works _ _ _
        · exact h.of_routine (.reportFault _ _ _ _ _)
  · exact h

theorem acceptFrame_driveFacts (h : DriveFacts s) (kind : Nat) : DriveFacts (acceptFrame kind s) := by
  obtain ⟨u, v, heard, through, ended⟩ := acceptFrame_routine (s := s) kind
  have before := h.of_routine heard
  refine DriveFacts.of_routine ?_ ended
  rcases through with rfl | ⟨mark, header, n, rfl⟩
  · exact before
  · exact toSequencer_driveFacts before _ _ _

/-! ### Resets and start -/

theorem coldReset_driveFacts (s : State) : DriveFacts (coldReset s) :=
  ((driveLaw_iff _).1 (resetBlocks_driveLaw (cutWrite s))).of_routine
    (.of_bounds rfl rfl rfl rfl rfl ⟨id, .refl _, id, id, fun _ => Nat.zero_le 32⟩)

theorem warmRestart_driveFacts (s : State) : DriveFacts (warmRestart s) :=
  ((driveLaw_iff _).1 (resetBlocks_driveLaw (dropOperations s))).of_routine (.onPort fun _ => Nat.zero_le 72)

/-- In STARTING the tables may be loaded: the channels are IDLE before and after (R70, R221). -/
theorem DriveFacts.reloaded (h : DriveFacts s) (rest : working s = false) {p : Params} {v : Vector Channel 48}
    (idle : ∀ c : Chan, v[c].drive = .idle) : DriveFacts { s with params := p, channels := v } := by
  obtain ⟨list, driving, queue, -⟩ := h.atRest rest
  exact .of_rest list driving queue idle

theorem working_of_starting (h : s.view.mode = .starting) : working s = false := by
  unfold working; rw [h]; rfl

theorem loadImage_driveFacts (h : DriveFacts s) (rest : working s = false) (img : List Byte) :
    DriveFacts (loadImage img s) := by
  have clamped : Routine s (reportClamped (clampedFields img) s) := .reportClamped _
  refine (h.of_routine clamped).reloaded (clamped.working.trans rest) fun c => ?_
  rw [Fin.getElem_fin, Vector.getElem_ofFn]
  rfl

theorem load_driveFacts (h : DriveFacts s) (starting : s.view.mode = .starting) : DriveFacts (load s) := by
  have rest := working_of_starting starting
  unfold load
  dsimp only
  split
  · exact h.of_routine ⟨rfl, .refl _, rfl, rfl, rfl, fun _ => .refl _, ⟨id, .refl _, id, id, id⟩⟩
  · refine DriveFacts.of_routine (loadImage_driveFacts ?_ ?_ _) (Routine.after .loadCalibration .loadLocks)
    · exact h.of_routine (.of_bounds rfl rfl rfl rfl rfl ⟨id, .refl _, id, id, id⟩)
    · exact rest

theorem complete_driveFacts (h : DriveFacts s) (starting : s.view.mode = .starting) : DriveFacts (complete s) := by
  obtain ⟨list, driving, queue, idle⟩ := h.atRest (working_of_starting starting)
  have entered (mode : Mode) (flash : Option Flash) : DriveFacts (modeEntered s mode flash) := by
    refine .of_rest list driving queue fun c => ?_
    show (Vector.ofFn (fun c : Chan => firstRegistration s.channels[c]))[c].drive = .idle
    rw [Fin.getElem_fin, Vector.getElem_ofFn]
    exact idle c
  rw [complete_eq]
  refine DriveFacts.of_routine ?_ .announceRun
  cases safe : s.start.safe
  · rw [enterMode_run safe]; exact entered _ _
  · rw [enterMode_safe safe]; exact entered _ _

/-! ### The supply -/

/-- Without the supply no coil is on; it may be found present where no move is held (R62, R63). -/
theorem supplyFound_driveFacts (h : DriveFacts s) (unsampled : s.drive.supply = .unsampled) (x : Supply) :
    DriveFacts (setSupply x none s) := by
  obtain ⟨-, unpowered, powered⟩ := h.limit
  exact h.withSupply _ _ (fun _ => powered (.inr unsampled))
    (fun _ => unpowered (by rw [unsampled]; exact fun hx => nomatch hx))

theorem supplyAway_driveFacts (h : DriveFacts s) (away : s.drive.supply ≠ .present) {x : Supply}
    (hx : x = .lost ∨ x = .waiting) (timer : Option Nat) : DriveFacts (setSupply x timer s) := by
  obtain ⟨-, unpowered, -⟩ := h.limit
  refine h.withSupply _ _ (fun found => ?_) fun _ => unpowered away
  rcases hx with rfl | rfl <;> rcases found with found | found <;> cases found

/-! ### The commands -/

/-- Every command keeps the law of the drive. -/
theorem exec_driveFacts (h : DriveFacts s) (c : Instr) (e : exec c s = .next t) : DriveFacts t := by
  by_cases routine : isRoutine c = true
  · rcases exec_routine c routine e with kept | ⟨u, kept, rfl⟩
    · exact h.of_routine kept
    · exact warmRestart_driveFacts u
  cases c with
  | coldReset => cases e; exact coldReset_driveFacts s
  | loadEvent =>
    cases e
    split
    · rename_i hl; exact load_driveFacts h hl.1
    · exact h
  | startUpCompletion =>
    cases e
    split
    · rename_i hc; exact complete_driveFacts h hc.1
    · exact h
  | debouncedChange c on =>
    cases e
    split
    · exact debouncedChange_driveFacts h c on
    · exact h
  | supplyFirstSample high =>
    cases e
    split
    · rename_i hu
      have unsampled : s.drive.supply = .unsampled := by simpa using (Bool.and_eq_true_iff.1 hu).2
      split
      · exact supplyFound_driveFacts h unsampled _
      · exact (supplyFound_driveFacts h unsampled _).of_routine (.reportFault _ _ _ _ _)
    · exact h
  | supplyLoss =>
    cases e
    split
    · rename_i present
      exact (movesHeld_driveFacts h present (holdMoves_at s)).of_routine (.reportFault _ _ _ _ _)
    · exact h
  | supplyWaitStart =>
    cases e
    split
    · rename_i lost; exact supplyAway_driveFacts h (by rw [lost]; exact fun hx => nomatch hx) (.inr rfl) _
    · exact h
  | supplyWaitAbandon =>
    cases e
    split
    · rename_i waiting; exact supplyAway_driveFacts h (by rw [waiting]; exact fun hx => nomatch hx) (.inl rfl) _
    · exact h
  | restore =>
    cases e
    split
    · rename_i waiting; exact restoreSupply_driveFacts h waiting
    · exact h
  | pulseStart =>
    cases e
    split
    · exact h
    · rename_i queue
      split
      · rename_i start; exact startPulse_driveFacts h queue start
      · exact h
  | pulseEnd c =>
    cases e
    split
    · rename_i energized
      exact settle_driveFacts h rfl (by rw [energized]; rfl) _ _ rfl
    · exact h
  | verify c =>
    cases e
    split
    · rename_i settling; exact verifyMove_driveFacts h settling
    · exact h
  | takeUpHead =>
    cases e
    split
    · exact h
    · rename_i listed
      split
      · exact takeUp_driveFacts h (h.working_of_list (by rw [listed]; exact List.cons_ne_nil _ _)) _
      · exact h
  | storingCaptureRetake =>
    cases e
    split
    · exact h
    · rename_i listed
      have works := h.working_of_list (by rw [listed]; exact List.cons_ne_nil _ _)
      split
      · exact takeCapture_driveFacts h works _ _ _
      · exact h
  | fetchResult =>
    cases e
    split
    · exact h
    · split
      · exact h
      · have freed : DriveFacts (fetchFreed s) := h.of_routine (.onStore id)
        exact issueWaitingRecall_driveFacts (deliverFetch_driveFacts freed _ _)
  | cancelFrame => cases e; exact acceptFrame_driveFacts h 0
  | recallFrame => cases e; exact acceptFrame_driveFacts h 1
  | captureFrame => cases e; exact acceptFrame_driveFacts h 2
  | handsetFrame => cases e; exact acceptFrame_driveFacts h 3
  | toggleFrame => cases e; exact acceptFrame_driveFacts h 4
  | tuttiFrame => cases e; exact acceptFrame_driveFacts h 5
  | stageFrame => cases e; exact acceptFrame_driveFacts h 6
  | setterFrame => cases e; exact acceptFrame_driveFacts h 7
  | levelFrame => cases e; exact acceptFrame_driveFacts h 8
  | announceFrame => cases e; exact acceptFrame_driveFacts h 9
  | _ => exact absurd rfl routine

/-- Settles O6: a step runs the front command, or the station goes on by itself; either keeps the law. -/
theorem stepKeepsDriveLaw : Obligations.StepKeepsDriveLaw := by
  unfold Obligations.StepKeepsDriveLaw
  intro s t law e
  have facts := (driveLaw_iff s).1 law
  refine (driveLaw_iff t).2 ?_
  unfold step at e
  split at e
  · exact exec_driveFacts (facts.of_routine .outside) _ e
  · cases e; exact facts.of_routine .idle

end Sys2Proof.Machine
end

section
/-! PROOF. Which older entries an operation prunes (R28, R29). -/

namespace Sys2Proof.Machine

/-- One affected set lies in another where the other has each of its channels (R28). -/
theorem and_not_eq_zero_iff (a n : ChanSet) : a &&& ~~~n = 0 ↔ ∀ c : Chan, a.has c = true → n.has c = true := by
  unfold ChanSet.has
  constructor
  · intro h c ha
    have bit := congrArg (fun x : ChanSet => x.getLsbD c.val) h
    simpa [ha] using bit
  · intro h
    refine BitVec.eq_of_getLsbD_eq fun i hi => ?_
    have bit := h ⟨i, hi⟩
    cases ha : a.getLsbD i
    · simp [ha]
    · simp [bit ha, hi]

theorem prunable_iff (n : ChanSet) (older : List OpEntry) (e : OpEntry) :
    prunable n older e = true ↔ e.body.isCapture = false ∧ e.state ≠ .storing
      ∧ (∀ c : Chan, e.affected.has c = true → n.has c = true) ∧ ∀ x ∈ older, x.body.isCapture = false := by
  rw [← and_not_eq_zero_iff]
  unfold prunable
  simp [and_assoc]

theorem pruneList_cons_pos {n : ChanSet} {e : OpEntry} {older : List OpEntry} (h : prunable n older e = true) :
    pruneList n (e :: older) = ((pruneList n older).1, e :: (pruneList n older).2) := if_pos h

theorem pruneList_cons_neg {n : ChanSet} {e : OpEntry} {older : List OpEntry} (h : prunable n older e ≠ true) :
    pruneList n (e :: older) = (e :: (pruneList n older).1, (pruneList n older).2) := if_neg h

theorem pruneList_sublist (n : ChanSet) (older : List OpEntry) :
    (pruneList n older).1.Sublist older ∧ (pruneList n older).2.Sublist older := by
  induction older with
  | nil => exact ⟨.slnil, .slnil⟩
  | cons e older ih =>
    obtain ⟨kept, removed⟩ := ih
    by_cases h : prunable n older e = true
    · rw [pruneList_cons_pos h]; exact ⟨kept.cons e, removed.cons_cons e⟩
    · rw [pruneList_cons_neg h]; exact ⟨kept.cons_cons e, removed.cons e⟩

/-- Settles O44: by whether the oldest entry is prunable, and that every entry goes to one of the two lists. -/
theorem pruningRemovesCoveredEntries : Obligations.PruningRemovesCoveredEntries := by
  unfold Obligations.PruningRemovesCoveredEntries
  intro n e older
  have sorted := (pruneList_perm n older).length_eq
  rw [List.length_append, Nat.add_comm] at sorted
  refine ⟨fun drive active covered clear => pruneList_cons_pos ((prunable_iff n older e).2 ⟨drive, active, covered, clear⟩),
    fun stays => pruneList_cons_neg fun prunes => ?_, (pruneList_sublist n older).1, (pruneList_sublist n older).2, sorted⟩
  obtain ⟨drive, active, covered, clear⟩ := (prunable_iff n older e).1 prunes
  rcases stays with capture | storing | ⟨c, inside, outside⟩ | ⟨x, hx, capture⟩
  · exact nomatch drive.symm.trans capture
  · exact active storing
  · exact nomatch (covered c inside).symm.trans outside
  · exact nomatch (clear x hx).symm.trans capture

end Sys2Proof.Machine
end

section
/-! PROOF. The fetch path: what a request gets at once, what waits for the memory, and what a result brings (R31, R85–R87,
R232). -/

namespace Sys2Proof.Machine

variable {s : State}

/-! ### Requests -/

/-- A RECALL asks for its slot on a free fetch path (R31). -/
theorem askFetch_free (h : s.store.fetch = none) (e : OpEntry) (l : Fin 256) (k : Fin 128) : askFetch e l k s = { s with
    ops := { s.ops with list := { e with state := .fetching, asked := false } :: s.ops.list.tail }
    store := { s.store with fetch := some { req := .recall l k, result := fetchData (.recall l k) s } } } := by
  unfold askFetch
  rw [h]
  dsimp only
  rw [requestFetch_eq]
  rfl

/-- While a fetch is in flight the RECALL is marked, and waits (R31; log 17). -/
theorem askFetch_taken {f : Fetch} (h : s.store.fetch = some f) (e : OpEntry) (l : Fin 256) (k : Fin 128) :
    askFetch e l k s = setHead { e with asked := true } s := by
  unfold askFetch
  rw [h]

theorem takeUp_recall {e : OpEntry} {l : Fin 256} {k : Fin 128} (h : e.body = .recall l k) :
    takeUp e s = askFetch e l k s := by
  unfold takeUp; rw [h]

/-- Settles O41: the fetch path is free, or a fetch is in flight. -/
theorem takeUpAsksForTheSlot : Obligations.TakeUpAsksForTheSlot := by
  unfold Obligations.TakeUpAsksForTheSlot
  intro s e rest l k listed waiting unasked body
  rw [exec_takeUpHead listed waiting unasked, takeUp_recall body]
  refine ⟨fun free => ?_, fun taken => ?_⟩
  · rw [askFetch_free free, ← unasked, listed]; rfl
  · obtain ⟨f, hf⟩ := Option.ne_none_iff_exists'.1 taken
    rw [askFetch_taken hf, setHead, listed]; rfl

/-! ### Serving -/

/-- A waiting fetch is served once the memory is IDLE (R85). -/
theorem exec_fetchServe_idle {req : FetchReq} (waits : s.store.fetch = some { req := req, result := none })
    (idle : s.store.mem = .idle) : exec .fetchServe s = .next { s with store := { s.store with
      fetch := some { req := req, result := some (storedBytes s.store.queue s.memory req) } } } := by
  have served : exec .fetchServe s = .next (serveFetch s) := congrArg Host.Outcome.next (if_pos idle)
  rw [served]
  unfold serveFetch
  rw [waits]
  dsimp only
  rw [fetchData_idle req idle]

/-! ### Results -/

/-- A result is delivered with the fetch path free, and then the RECALL that waits for the path is issued (R87). -/
theorem exec_fetchResult_delivers {req : FetchReq} {bytes : List Byte}
    (h : s.store.fetch = some { req := req, result := some bytes }) :
    exec .fetchResult s = .next (issueWaitingRecall (deliverFetch req bytes (fetchFreed s))) := by
  show execFetchResult s = _
  unfold execFetchResult
  rw [h]
  rfl

/-- Without a FETCHING RECALL at the head its result is discarded (R87). -/
theorem deliverFetch_discarded {l : Fin 256} {k : Fin 128} (bytes : List Byte)
    (h : ∀ e, s.ops.list.head? = some e → e.state ≠ .fetching) : deliverFetch (.recall l k) bytes s = s := by
  unfold deliverFetch
  dsimp only
  split
  · rfl
  · rename_i e rest listed
    exact if_neg (h e (by rw [listed]; rfl))

/-- No delivery to a head that is not FETCHING touches the operation list or the fetch path (R87). -/
theorem deliverFetch_kept (req : FetchReq) (bytes : List Byte)
    (h : ∀ e, s.ops.list.head? = some e → e.state ≠ .fetching) :
    (deliverFetch req bytes s).ops = s.ops ∧ (deliverFetch req bytes s).store = s.store := by
  match req with
  | .recall l k => rw [deliverFetch_discarded bytes h]; exact ⟨rfl, rfl⟩
  | .slotRead l k => exact ⟨rfl, rfl⟩
  | .imageRead off len => exact ⟨rfl, rfl⟩

theorem issueWaitingRecall_asked {e : OpEntry} {rest : List OpEntry} {l : Fin 256} {k : Fin 128}
    (listed : s.ops.list = e :: rest) (asked : e.asked = true) (body : e.body = .recall l k) :
    issueWaitingRecall s = askFetch e l k s := by
  unfold issueWaitingRecall
  rw [listed]
  dsimp only
  rw [body]
  exact if_pos asked

/-- Settles O45: the serving by the request, the delivery by who asked, and then the RECALL that waited for the path. -/
theorem fetchesAreServedAndDelivered : Obligations.FetchesAreServedAndDelivered := by
  unfold Obligations.FetchesAreServedAndDelivered
  intro s req
  refine ⟨fun waits => ⟨fun busy => ?_, fun idle => ⟨fun l k slot => ?_, fun off len image => ?_⟩⟩,
    fun bytes result => ⟨fun none => ?_, fun e rest l k listed asked waiting body => ?_⟩⟩
  · exact congrArg Host.Outcome.next (if_neg (by rw [busy]; exact fun hx => nomatch hx))
  · have stored : storedBytes s.store.queue s.memory req
        = (newestData s.store.queue (.slot l k)).getD (memReadRange s.memory (slotAddress l k) 8) := by
      rcases slot with rfl | rfl <;> rfl
    rw [exec_fetchServe_idle waits idle, stored]
    refine ⟨fun older x newer queue own newest => ?_, fun absent => ?_⟩
    · rw [queue, newestData_split own newest]; rfl
    · rw [newestData_none absent]; rfl
  · rw [exec_fetchServe_idle waits idle, image]; rfl
  · have unwaited (u : State) (ops : u.ops = s.ops) : issueWaitingRecall u = u :=
      issueWaitingRecall_none (by rw [ops]; exact none)
    rw [exec_fetchResult_delivers result]
    refine ⟨fun l k slot => ?_, fun off len image => ?_, fun l k recalled unfetched => ?_⟩
    · rw [slot, unwaited] <;> rfl
    · rw [image, unwaited] <;> rfl
    · rw [recalled, deliverFetch_discarded (s := fetchFreed s) bytes unfetched, unwaited] <;> rfl
  · have unfetched : ∀ x, (fetchFreed s).ops.list.head? = some x → x.state ≠ .fetching := by
      intro x hx
      have same : e = x := Option.some.inj ((congrArg List.head? listed).symm.trans hx)
      rw [← same, waiting]
      exact fun hx => nomatch hx
    obtain ⟨ops, store⟩ := deliverFetch_kept req bytes unfetched
    have listed' : (deliverFetch req bytes (fetchFreed s)).ops.list = e :: rest := by rw [ops]; exact listed
    rw [exec_fetchResult_delivers result, issueWaitingRecall_asked listed' asked body,
      askFetch_free (by rw [store]; rfl), listed']
    exact ⟨_, _, rfl, rfl, rfl, rfl⟩

end Sys2Proof.Machine
end

section
/-! PROOF. How a write enters the write queue, and a CAPTURE with its snapshot (R40–R43, R79, R80). -/

namespace Sys2Proof.Machine

variable {s : State}

/-! ### The write queue -/

/-- The one entry of a target that is not in flight is replaced in place (R80). -/
theorem enterQueue_replaced {before after : List WriteEntry} {e : WriteEntry} {t : Target} (data : List Byte)
    (capture : Option (Fin 32)) (waits : waitsFor t e = true) (others : ∀ x ∈ before ++ after, waitsFor t x = false) :
    enterQueue (before ++ e :: after) t data capture
      = some (before ++ { e with data := data, capture := capture } :: after) := by
  have kept (q : List WriteEntry) (hq : ∀ x ∈ q, waitsFor t x = false) :
      q.map (fun e => if waitsFor t e then { e with data := data, capture := capture } else e) = q :=
    (List.map_congr_left fun x hx => if_neg (by rw [hq x hx]; decide)).trans (List.map_id _)
  obtain ⟨front, back⟩ := List.forall_mem_append.1 others
  unfold enterQueue
  rw [if_pos (by simp [waits]), List.map_append, List.map_cons, kept before front, kept after back, if_pos waits]

theorem replacedCapture_replaced {before after : List WriteEntry} {e : WriteEntry} {t : Target}
    (waits : waitsFor t e = true) (front : ∀ x ∈ before, waitsFor t x = false) :
    replacedCapture (before ++ e :: after) t = e.capture := by
  have none : before.find? (waitsFor t) = none := List.find?_eq_none.2 fun x hx => by rw [front x hx]; decide
  unfold replacedCapture
  rw [List.find?_append, none, List.find?_cons_of_pos waits]
  rfl

/-- Without an entry that it may replace a write is appended while there is room (R79, R80). -/
theorem enterQueue_appended {q : List WriteEntry} {t : Target} (data : List Byte) (capture : Option (Fin 32))
    (fresh : ∀ x ∈ q, waitsFor t x = false) : enterQueue q t data capture = (if q.length < 8 then
      some (q ++ [{ target := t, data := data, inFlight := false, capture := capture }]) else none) := by
  unfold enterQueue
  exact if_neg (by simpa using fresh)

theorem replacedCapture_fresh {q : List WriteEntry} {t : Target} (fresh : ∀ x ∈ q, waitsFor t x = false) :
    replacedCapture q t = none := by
  have none : q.find? (waitsFor t) = none := List.find?_eq_none.2 fun x hx => by rw [fresh x hx]; decide
  unfold replacedCapture
  rw [none]
  rfl

/-- No entry of a list can be replaced where each of the target is in flight (R80). -/
theorem waitsFor_false_of_inFlight {q : List WriteEntry} {t : Target} (h : ∀ x ∈ q, x.target = t → x.inFlight = true) :
    ∀ x ∈ q, waitsFor t x = false := by
  intro x hx
  rw [← Bool.not_eq_true, waitsFor_iff]
  rintro ⟨own, idle⟩
  exact nomatch (h x hx own).symm.trans idle

/-! ### The CAPTURE -/

/-- A CAPTURE whose write is entered leaves the list (R40, R42). -/
theorem takeCapture_entered {e : OpEntry} {l : Fin 256} {k : Fin 128} {q : List WriteEntry}
    (h : enterQueue s.store.queue (.slot l k) (writtenRecord (snapshot e.affected s)) e.record = some q) :
    takeCapture e l k s = { s with
      ops := { s.ops with list := s.ops.list.tail }
      link := s.link.withdrawHold
      store := { s.store with queue := q }
      journal := s.journal.close (replacedCapture s.store.queue (.slot l k)) .superseded none } := by
  unfold takeCapture
  rw [enterWrite_entered h]
  rfl

/-- Without a place it becomes STORING (R41). -/
theorem takeCapture_refused {e : OpEntry} {l : Fin 256} {k : Fin 128}
    (h : enterQueue s.store.queue (.slot l k) (writtenRecord (snapshot e.affected s)) e.record = none) :
    takeCapture e l k s = setHead { e with state := .storing } s := by
  unfold takeCapture
  rw [enterWrite_refused h]

/-- A CAPTURE is taken up at the head, or again where it is STORING (R30, R41). -/
theorem exec_takeCapture {e : OpEntry} {rest : List OpEntry} {l : Fin 256} {k : Fin 128} {cmd : Instr}
    (listed : s.ops.list = e :: rest) (body : e.body = .capture l k)
    (h : cmd = .takeUpHead ∧ e.state = .waiting ∧ e.asked = false ∨ cmd = .storingCaptureRetake ∧ e.state = .storing) :
    exec cmd s = .next (takeCapture e l k s) := by
  rcases h with ⟨rfl, waiting, unasked⟩ | ⟨rfl, storing⟩
  · rw [exec_takeUpHead listed waiting unasked]
    unfold takeUp
    rw [body]
  · show execStoringCaptureRetake s = _
    unfold execStoringCaptureRetake
    rw [listed]
    dsimp only
    rw [storing, body]

/-- Settles O42: the write queue by its entries of the target, and the CAPTURE by whether its write has a place. -/
theorem captureEntersItsSnapshot : Obligations.CaptureEntersItsSnapshot := by
  unfold Obligations.CaptureEntersItsSnapshot
  refine ⟨fun q t data capture => ⟨fun before e after queue own idle others => ?_, fun inFlight => ?_⟩,
    fun s e rest l k cmd listed body taken => ⟨snapshot e.affected s, fun c => chanSet_has _ c, fun q entered => ?_,
      fun refused => ?_⟩⟩
  · have waits := waitsFor_iff.2 ⟨own, idle⟩
    have rest := waitsFor_false_of_inFlight others
    rw [queue]
    exact ⟨enterQueue_replaced data capture waits rest,
      replacedCapture_replaced waits fun x hx => rest x (List.mem_append_left _ hx)⟩
  · have fresh := waitsFor_false_of_inFlight inFlight
    exact ⟨enterQueue_appended data capture fresh, replacedCapture_fresh fresh⟩
  · rw [exec_takeCapture listed body taken, takeCapture_entered entered, listed]
    rfl
  · rw [exec_takeCapture listed body taken, takeCapture_refused refused, setHead, listed]
    rfl

end Sys2Proof.Machine
end

section
/-! PROOF. The verify that ends a move, queues it again or redirects it (R57–R59, R67). -/

namespace Sys2Proof.Machine

variable {s : State}

theorem exec_verify_settling {c : Chan} {dir : Bool} {a : Attempt} {n : Nat} (h : s.channels[c].drive = .settling dir a n) :
    exec (.verify c) s = .next (verifyMove c dir a s) := by
  show execVerify c s = _
  unfold execVerify
  rw [h]

theorem verifyMove_match {c : Chan} (h : s.channels[c].contact = s.channels[c].registered) (dir : Bool) (a : Attempt) :
    verifyMove c dir a s = verifyMatch c s := if_pos h

theorem verifyMove_retry {c : Chan} {dir : Bool} (away : s.channels[c].contact ≠ s.channels[c].registered)
    (same : s.channels[c].registered = dir) : verifyMove c dir .first s = verifyRetry c dir s := by
  unfold verifyMove
  dsimp only
  rw [if_neg away, if_pos same]

theorem verifyMove_fresh {c : Chan} {dir : Bool} (away : s.channels[c].contact ≠ s.channels[c].registered)
    (changed : s.channels[c].registered ≠ dir) (a : Attempt) : verifyMove c dir a s = verifyFresh c s := by
  unfold verifyMove
  dsimp only
  rw [if_neg away, if_neg changed]

/-- Counting writes the counts into the OPEN record of the DRIVING operation (R206). -/
theorem countDriving_record_at (f : Counts → Counts) {d : Driving} {p : Fin 32} {r : Record}
    (hd : s.ops.driving = some d) (hr : openRecordAt s d.record p r) :
    (countDriving f s).journal.records[p] = some { r with counts := f d.counts } := by
  obtain ⟨ref, rec, opened⟩ := hr
  unfold countDriving
  simp only [hd]
  exact Journal.update_at _ _ _ _ _ ref rec opened

/-- The station at a verify that is at target, before the closing check (R38, R57). -/
def moveCounted (c : Chan) (s : State) : State :=
  countDriving Counts.addDone (setChannel c { s.channels[c] with drive := .idle, fault := false } s)

theorem verifyMatch_eq (c : Chan) (s : State) : verifyMatch c s = closingCheck (moveCounted c s) := rfl

theorem verifyMatch_channels (c : Chan) (s : State) : (verifyMatch c s).channels
    = (setChannel c { s.channels[c] with drive := .idle, fault := false } s).channels := by
  rw [verifyMatch_eq, closingCheck_channels]; rfl

theorem verifyMatch_outstanding (c : Chan) (s : State) :
    anyOutstanding (verifyMatch c s) = anyOutstanding (moveCounted c s) :=
  anyOutstanding_congr (by rw [verifyMatch_eq, closingCheck_channels])

theorem verifyMatch_driving (c : Chan) (s : State) : (verifyMatch c s).ops.driving =
    if anyOutstanding (verifyMatch c s) then s.ops.driving.map (fun d => { d with counts := d.counts.addDone })
    else none := by
  rw [verifyMatch_outstanding, verifyMatch_eq, closingCheck_ops]
  rfl

/-- The record of the DRIVING operation counts the move, and closes with the last one (R38, R67). -/
theorem verifyMatch_record (c : Chan) {d : Driving} {p : Fin 32} {r : Record} (hd : s.ops.driving = some d)
    (hr : openRecordAt s d.record p r) : ((verifyMatch c s).journal.records[p]).map (fun r => (r.state, r.counts.done))
      = some (if anyOutstanding (verifyMatch c s) then .opened else .closed, satInc d.counts.done) := by
  have counted : (moveCounted c s).journal.records[p] = some { r with counts := d.counts.addDone } :=
    countDriving_record_at (s := setChannel c _ s) Counts.addDone hd hr
  have driving : (moveCounted c s).ops.driving = some { d with counts := d.counts.addDone } := by
    show s.ops.driving.map _ = _
    rw [hd]; rfl
  obtain ⟨ref, -, opened⟩ := hr
  rw [verifyMatch_outstanding, verifyMatch_eq]
  unfold closingCheck
  split
  · rw [counted, ← opened]; rfl
  · rw [closeDriving_record_at driving ⟨ref, counted, opened⟩]; rfl

/-- All that a verify at target changes. -/
theorem verifyMatch_frame (c : Chan) (s : State) : verifyMatch c s = { s with
    channels := (verifyMatch c s).channels
    ops := { s.ops with driving := (verifyMatch c s).ops.driving }
    journal := (verifyMatch c s).journal } := by
  have frame := closingCheck_countDriving_eq Counts.addDone
    (setChannel c { s.channels[c] with drive := .idle, fault := false } s)
  have journal : (verifyMatch c s).journal = { s.journal with records := (verifyMatch c s).journal.records } :=
    congrArg State.journal frame
  rw [journal, verifyMatch_channels]
  exact frame

/-- Settles O37: the contact has arrived, the target is as it was, or it has changed. -/
theorem verifyDecidesTheMove : Obligations.VerifyDecidesTheMove := by
  unfold Obligations.VerifyDecidesTheMove
  refine ⟨fun s c dir a n settling arrived => ?_, fun s c dir n settling away same => ?_,
    fun s c dir a n settling away changed => ?_⟩
  · have others : OthersUnchanged c s (verifyMatch c s) := by
      unfold OthersUnchanged
      rw [verifyMatch_channels]; exact othersUnchanged_setChannel c _ s
    rw [exec_verify_settling settling, verifyMove_match arrived]
    refine ⟨_, rfl, verifyMatch_frame c s, ?_, others, fun ho => ?_, fun ho => ?_,
      fun d p r hd ref rec opened => verifyMatch_record c hd ⟨ref, rec, opened⟩⟩
    · rw [verifyMatch_channels]; exact setChannel_at c _ s
    · rw [verifyMatch_driving, if_pos ho]
    · rw [verifyMatch_driving, ho]; rfl
  · have number : (verifyRetry c dir s).journal.number = s.journal.number := by
      unfold verifyRetry; rw [countDriving_journal]; rfl
    rw [exec_verify_settling settling, verifyMove_retry away same]
    exact ⟨_, rfl, rfl, setChannel_at c _ s, othersUnchanged_setChannel c _ s, number⟩
  · rw [exec_verify_settling settling, verifyMove_fresh away changed]
    exact ⟨_, rfl, rfl, setChannel_at c _ s, othersUnchanged_setChannel c _ s⟩

end Sys2Proof.Machine
end

section
/-! PROOF. What a plan makes of the pending-move queue, entry by entry (R34, R50). -/

namespace Sys2Proof.Machine

variable {s : State}

/-! ### The queue after the plan -/

section
variable (planned : Chan → Bool) (record : Chan → Channel) (target : Chan → Bool)

/-- The move a channel gets toward its target. -/
def freshMove (c : Chan) : Move := { chan := c, dir := target c, attempt := .first }

/-- A planned channel whose move is queued: the plan redirects or removes its entry (R34). -/
def replanned (c : Chan) : Bool := planned c && decide ((record c).drive = .queued)

/-- The contact of a channel is at the plan's target. -/
def atTarget (c : Chan) : Bool := decide ((record c).contact = target c)

/-- What a queued move becomes once the plan has treated the channels of a list (R34). -/
def treatedMove (cs : List Chan) (m : Move) : Option Move :=
  if m.chan ∈ cs ∧ replanned planned record m.chan = true then
    if atTarget record target m.chan = true then none else some (freshMove target m.chan)
  else some m

/-- The channels of a list whose moves the plan appends (R34, R50). -/
def newlyQueued (cs : List Chan) : List Chan :=
  cs.filter fun c => planned c && decide ((record c).drive = .idle) && !atTarget record target c

/-- One channel's treatment, entry by entry. -/
theorem plannedQueue_eq {c : Chan} (hc : planned c = true) (q : List Move) :
    plannedQueue c (record c) (target c) q = q.filterMap (treatedMove planned record target [c])
      ++ (newlyQueued planned record target [c]).map (freshMove target) := by
  have untouched (hd : (record c).drive ≠ .queued) : q.filterMap (treatedMove planned record target [c]) = q := by
    refine (List.filterMap_congr fun m _ => if_neg ?_).trans (List.filterMap_some)
    rintro ⟨own, queued⟩
    rw [List.mem_singleton.1 own] at queued
    exact hd (of_decide_eq_true (Bool.and_eq_true_iff.1 queued).2)
  have unappended (hd : (record c).drive ≠ .idle) : newlyQueued planned record target [c] = [] :=
    List.filter_eq_nil_iff.2 fun d hd' => by simp [List.mem_singleton.1 hd', hd]
  unfold plannedQueue
  split
  · rename_i idle
    rw [untouched (by rw [idle]; exact fun hx => nomatch hx)]
    split <;> rename_i there <;> simp [newlyQueued, atTarget, hc, idle, there, freshMove]
  · rename_i queued
    rw [unappended (by rw [queued]; exact fun hx => nomatch hx), List.map_nil, List.append_nil]
    have treated (m : Move) : treatedMove planned record target [c] m = if m.chan = c then
        if (record c).contact = target c then none else some (freshMove target c) else some m := by
      unfold treatedMove
      by_cases own : m.chan = c
      · simp [own, replanned, atTarget, hc, queued]
      · simp [own]
    split
    · rename_i there
      rw [← List.filterMap_eq_filter]
      refine List.filterMap_congr fun m _ => ?_
      rw [treated, if_pos there]
      by_cases own : m.chan = c <;> simp [own, Option.guard]
    · rename_i away
      rw [← List.filterMap_eq_map]
      refine List.filterMap_congr fun m _ => ?_
      rw [treated, if_neg away]
      by_cases own : m.chan = c <;> simp [own, freshMove]
  · rename_i unidle unqueued
    rw [untouched unqueued, unappended unidle, List.map_nil, List.append_nil]

/-- The treatment of one channel and then of others is that of all. -/
theorem treatedMove_bind (c : Chan) (cs : List Chan) (m : Move) :
    (treatedMove planned record target [c] m).bind (treatedMove planned record target cs)
      = treatedMove planned record target (c :: cs) m := by
  by_cases own : m.chan = c
  · subst own
    by_cases queued : replanned planned record m.chan = true
    · by_cases there : atTarget record target m.chan = true
      · simp [treatedMove, queued, there]
      · simp [treatedMove, queued, there, freshMove]
    · simp [treatedMove, queued]
  · simp [treatedMove, own]

/-- A move appended for an IDLE channel stays as it is (R34). -/
theorem treatedMove_fresh {c : Chan} (idle : (record c).drive = .idle) (cs : List Chan) :
    treatedMove planned record target cs (freshMove target c) = some (freshMove target c) := by
  refine if_neg fun h => ?_
  have queued := (Bool.and_eq_true_iff.1 h.2).2
  rw [show (freshMove target c).chan = c from rfl, idle] at queued
  cases queued

theorem newlyQueued_cons (c : Chan) (cs : List Chan) : newlyQueued planned record target (c :: cs)
    = newlyQueued planned record target [c] ++ newlyQueued planned record target cs :=
  List.filter_append [c] cs

/-- The channels treated one after another leave the queue's entries in their places and append the new ones in order (R34,
R50). -/
theorem plannedQueues_eq (cs : List Chan) (q : List Move) :
    cs.foldl (fun q c => if planned c then plannedQueue c (record c) (target c) q else q) q
      = q.filterMap (treatedMove planned record target cs)
        ++ (newlyQueued planned record target cs).map (freshMove target) := by
  induction cs generalizing q with
  | nil =>
    have same (m : Move) : treatedMove planned record target [] m = some m := if_neg fun h => nomatch h.1
    simp [funext same, newlyQueued]
  | cons c cs ih =>
    have first : (if planned c then plannedQueue c (record c) (target c) q else q)
        = q.filterMap (treatedMove planned record target [c])
          ++ (newlyQueued planned record target [c]).map (freshMove target) := by
      split
      · rename_i hc; exact plannedQueue_eq planned record target hc q
      · rename_i hc
        have same (m : Move) : treatedMove planned record target [c] m = some m := by
          refine if_neg ?_
          rintro ⟨own, queued⟩
          rw [List.mem_singleton.1 own] at queued
          exact hc (Bool.and_eq_true_iff.1 queued).1
        simp [funext same, newlyQueued, hc]
    have appended : ((newlyQueued planned record target [c]).map (freshMove target)).filterMap
        (treatedMove planned record target cs) = (newlyQueued planned record target [c]).map (freshMove target) := by
      rw [List.filterMap_map, ← List.filterMap_eq_map]
      refine List.filterMap_congr fun d hd => ?_
      have idle := (List.mem_filter.1 hd).2
      simp only [Bool.and_eq_true, decide_eq_true_eq] at idle
      exact treatedMove_fresh planned record target idle.1.2 cs
    rw [List.foldl_cons, first, ih, List.filterMap_append, List.filterMap_filterMap, appended,
      newlyQueued_cons planned record target c cs, List.map_append, List.append_assoc]
    simp only [treatedMove_bind]

/-- The entries that stay, each redirected where its channel is replanned (R34). -/
theorem filterMap_treatedMove (q : List Move) : q.filterMap (treatedMove planned record target (List.finRange 48))
    = (q.filter fun m => !(replanned planned record m.chan && atTarget record target m.chan)).map
      fun m => if replanned planned record m.chan then freshMove target m.chan else m := by
  rw [← List.filterMap_eq_map, List.filterMap_filter]
  refine List.filterMap_congr fun m _ => ?_
  unfold treatedMove
  by_cases queued : replanned planned record m.chan = true
  · by_cases there : atTarget record target m.chan = true <;> simp [queued, there]
  · simp [queued]

end

/-! ### The commands that plan -/

/-- A plan is made of an operation at the head, or of the result of its RECALL's fetch (R30, R32): of the channels and the
drive, the command leaves what the plan leaves. -/
theorem exec_plans {e : OpEntry} {rest : List OpEntry} {cmd : Instr} {target : Chan → Bool}
    (listed : s.ops.list = e :: rest)
    (h : cmd = .takeUpHead ∧ e.state = .waiting ∧ e.asked = false ∧ target = targetOf s e.body
        ∧ (∀ l k, e.body ≠ .recall l k) ∧ (∀ l k, e.body ≠ .capture l k)
      ∨ cmd = .fetchResult ∧ e.state = .fetching ∧ ∃ l k bytes,
          s.store.fetch = some { req := .recall l k, result := some bytes }
          ∧ ((classify bytes = .blank ∧ target = fun _ => false)
            ∨ ∃ x, classify bytes = .written x ∧ target = fun c => x.has c)) :
    ∃ u t, exec cmd s = .next t ∧ u.channels = s.channels ∧ u.drive = s.drive
      ∧ t.channels = (plan e target u).channels ∧ t.drive = (plan e target u).drive := by
  rcases h with ⟨rfl, waiting, unasked, rfl, recalls, captures⟩ | ⟨rfl, fetching, l, k, bytes, fetched, result⟩
  · exact ⟨s, _, (exec_takeUpHead listed waiting unasked).trans (congrArg _ (takeUp_plan recalls captures)), rfl, rfl,
      rfl, rfl⟩
  · have planned : recallOutcome e l k bytes (fetchFreed s) = plan e target (fetchFreed s) := by
      unfold recallOutcome
      rcases result with ⟨blank, rfl⟩ | ⟨x, written, rfl⟩
      · rw [blank]
      · rw [written]
    refine ⟨fetchFreed s, _, exec_fetchResult listed fetching fetched, rfl, rfl, ?_, ?_⟩
    · rw [issueWaitingRecall_channels, planned]
    · rw [issueWaitingRecall_drive, planned]

/-- Settles O40: the channels one by one, the queue entry by entry. -/
theorem planTreatsAChannelByItsDriveState : Obligations.PlanTreatsAChannelByItsDriveState := by
  unfold Obligations.PlanTreatsAChannelByItsDriveState
  intro s e rest cmd target listed driven plans planned atTarget queued idle fresh
  obtain ⟨u, t, next, before, driveBefore, channels, drive⟩ := exec_plans listed plans
  have channel (c : Chan) : t.channels[c] = if e.affected.has c = true then plannedChannel s.channels[c] (target c)
      else s.channels[c] := by
    rw [← before, channels]
    exact plan_channel e target u c
  refine ⟨t, next, fun c hc => ?_, fun c hc => ?_, ?_⟩
  · obtain ⟨affected, moved⟩ := Bool.and_eq_true_iff.1 hc
    have treated : t.channels[c] = { s.channels[c] with
        registered := target c, fault := false, drive := plannedDrive s.channels[c] (target c) } := by
      rw [channel, if_pos affected, plannedChannel_driven (driven c affected), if_pos (of_decide_eq_true moved)]
    dsimp only
    rw [treated]
    unfold plannedDrive
    refine ⟨rfl, ?_, fun dir a held => ?_, ?_⟩
    · rintro (hd | hd) <;> rw [hd]
    · rw [held]
    · rintro (energized | ⟨dir, a, n, settling⟩)
      · cases hd : s.channels[c].drive with
        | energized => rfl
        | idle => rw [hd] at energized; cases energized
        | queued => rw [hd] at energized; cases energized
        | settling => rfl
        | held => rw [hd] at energized; cases energized
      · rw [settling]
  · rw [channel]
    split
    · rename_i affected
      have unmoved : s.channels[c].type ≠ .moved := by simpa [planned, affected] using hc
      rw [plannedChannel_driven (driven c affected), if_neg unmoved]
    · rfl
  · rw [drive, plan_drive, driveBefore]
    have records : queueAfterPlan u e.affected target = queueAfterPlan s e.affected target := by
      unfold queueAfterPlan; rw [before, driveBefore]
    rw [records]
    unfold queueAfterPlan
    rw [plannedQueues_eq planned (fun c => s.channels[c]) target, filterMap_treatedMove]
    rfl

end Sys2Proof.Machine
end

section
/-! PROOF. The operation that a frame asks for, and its affected set (R24, R25, R78). -/

namespace Sys2Proof.Machine

/-! ### The operation of a message -/

theorem scopeOf_division (d : Fin 16) : scopeOf (byteOf d.val) = some (.division d) := by
  have value : (byteOf d.val).toNat = d.val := byteOf_toNat (d.isLt.trans (by decide))
  have notConsole : byteOf d.val ≠ 0xFF := fun h => by
    have := congrArg BitVec.toNat h
    rw [value] at this
    exact absurd (this ▸ d.isLt) (by decide)
  unfold scopeOf
  rw [if_neg notConsole, if_pos (value.trans_lt d.isLt), value]
  simp

theorem scopeOf_ignored {b : Byte} (large : 16 ≤ b.toNat) (notConsole : b ≠ 0xFF) : scopeOf b = none := by
  unfold scopeOf
  rw [if_neg notConsole, if_neg (Nat.not_lt.2 large)]

theorem operationOf_slot (mark : Mark) (l : Fin 256) (k : Fin 128) :
    operationOf mark (.recall (byteOf l.val) (byteOf k.val)) = some (.recall l k)
      ∧ operationOf mark (.capture (byteOf l.val) (byteOf k.val)) = some (.capture l k) := by
  unfold operationOf
  dsimp only
  rw [byteOf_slot_toNat, if_pos k.isLt, if_pos k.isLt, byteOf_toFin]
  simp

/-! ### The affected set -/

theorem drivenSet_has (s : State) (f : Channel → Bool) (c : Chan) :
    (drivenSet s f).has c = true ↔ s.channels[c].type ≠ .plain ∧ f s.channels[c] = true := by
  unfold drivenSet
  rw [chanSet_has]
  simp

theorem participationOf_all {b : Byte} (mode : b.toNat / 64 = 1) : participationOf b = .all := by
  unfold participationOf; rw [mode]; rfl

theorem participationOf_division {b : Byte} (mode : b.toNat / 64 = 2) :
    participationOf b = .division (Fin.ofNat 16 b.toNat) := by
  unfold participationOf; rw [mode]; rfl

theorem participationOf_none {b : Byte} (notAll : b.toNat / 64 ≠ 1) (notDivision : b.toNat / 64 ≠ 2) :
    participationOf b = .none := by
  unfold participationOf
  split
  · contradiction
  · contradiction
  · rfl

/-- Mode 1 takes part with all channels, mode 2 with those of a division, any other with none (R78). -/
theorem slotSet_has (s : State) (k : Fin 128) (c : Chan) : (slotSet s k).has c = true ↔
    s.channels[c].type ≠ .plain ∧ (s.params.participation[k].toNat / 64 = 1
      ∨ s.params.participation[k].toNat / 64 = 2
        ∧ s.channels[c].division.val = s.params.participation[k].toNat % 16) := by
  unfold slotSet
  generalize s.params.participation[k] = b
  by_cases all : b.toNat / 64 = 1
  · rw [participationOf_all all]
    exact (drivenSet_has s _ c).trans (by simp [all])
  · by_cases division : b.toNat / 64 = 2
    · rw [participationOf_division division]
      exact (drivenSet_has s _ c).trans (by simp [division, Fin.ext_iff])
    · rw [participationOf_none all division]
      simp [all, division, ChanSet.has]

/-- Settles O51: the message kinds, and the kinds of operation. -/
theorem framesAskForTheirOperations : Obligations.FramesAskForTheirOperations := by
  unfold Obligations.FramesAskForTheirOperations
  refine ⟨fun mark => ⟨rfl, fun d => congrArg (Option.map OpBody.cancel) (scopeOf_division d),
    fun b large notConsole => congrArg (Option.map OpBody.cancel) (scopeOf_ignored large notConsole),
    operationOf_slot mark, fun l k large => ⟨if_neg (Nat.not_lt.2 large), if_neg (Nat.not_lt.2 large)⟩,
    fun stop => ⟨rfl, rfl, rfl, rfl⟩, fun stop on => ?_⟩, fun s c => ⟨fun l k body slot => ?_, ?_, ?_, ?_, ?_⟩⟩
  · cases mark <;> rfl
  · rcases slot with rfl | rfl <;> exact slotSet_has s k c
  · exact (drivenSet_has s _ c).trans (and_iff_left rfl)
  · exact fun d => (drivenSet_has s _ c).trans (and_congr_right fun _ => decide_eq_true_iff)
  · exact fun stop a => (drivenSet_has s _ c).trans (and_congr_right fun _ => decide_eq_true_iff)
  · exact fun stop on => (drivenSet_has s _ c).trans (and_congr_right fun _ => decide_eq_true_iff)

end Sys2Proof.Machine
end

section
/-! PROOF. The frames that ask for operations: what the Sequencer makes of one, and what a delivery leaves of that (R26–R29,
R177, R179–R183, R205, R208). -/

namespace Sys2Proof.Machine

variable {s t : State}

/-! ### Records written behind a record -/

/-- Journal k is journal j with at most n records written behind it (R201, R203). -/
def Journal.Grown (n : Nat) (j k : Journal) : Prop := ∃ rs : List Record, rs.length ≤ n ∧ k = rs.foldl Journal.push j

theorem Journal.Grown.refl (j : Journal) : j.Grown 0 j := ⟨[], Nat.le_refl 0, rfl⟩

theorem Journal.Grown.push (j : Journal) (r : Record) : j.Grown 1 (j.push r) := ⟨[r], Nat.le_refl 1, rfl⟩

theorem Journal.Grown.trans {m n : Nat} {j k l : Journal} (h : j.Grown m k) (g : k.Grown n l) : j.Grown (m + n) l := by
  obtain ⟨rs, fewer, rfl⟩ := h
  obtain ⟨qs, fewer', rfl⟩ := g
  exact ⟨rs ++ qs, by rw [List.length_append]; omega, by rw [List.foldl_append]⟩

theorem Journal.Grown.mono {m n : Nat} {j k : Journal} (h : j.Grown m k) (le : m ≤ n) : j.Grown n k := by
  obtain ⟨rs, fewer, grown⟩ := h
  exact ⟨rs, fewer.trans le, grown⟩

/-- A position that the writing has not come round to keeps its record (R201). -/
theorem Journal.foldl_push_other (rs : List Record) (j : Journal) (p : Fin 32) (h : rs.length ≤ (p - j.next).val) :
    (rs.foldl Journal.push j).records[p] = j.records[p] := by
  induction rs generalizing j with
  | nil => rfl
  | cons r rs ih =>
    have next : (j.push r).next = j.next + 1 := rfl
    have away : p ≠ j.next := by
      rintro rfl
      simp at h
    have further : rs.length ≤ (p - (j.push r).next).val := by
      rw [next]
      simp only [List.length_cons, Fin.val_sub, Fin.val_add] at h ⊢
      omega
    exact (ih (j.push r) further).trans (j.push_other r p away)

/-- The record written before fewer than 32 others still stands (R201). -/
theorem Journal.Grown.last {n : Nat} {j k : Journal} {p : Fin 32} (h : j.Grown n k) (next : j.next = p + 1) (few : n ≤ 31) :
    k.records[p] = j.records[p] := by
  obtain ⟨rs, fewer, rfl⟩ := h
  refine Journal.foldl_push_other rs j p (fewer.trans (few.trans ?_))
  rw [next]
  simp only [Fin.val_sub, Fin.val_add]
  omega

theorem reportFault_grown (k : FaultCode) (a b c d : Byte) : s.journal.Grown 1 (reportFault k a b c d s).journal := .push _ _

theorem handOver_grown (f : TxFrame) : s.journal.Grown 1 (handOver f s).journal := by
  unfold handOver
  split
  · split
    · exact (Journal.Grown.refl _).mono (by decide)
    · exact reportFault_grown _ _ _ _ _
  · exact (Journal.Grown.refl _).mono (by decide)

theorem sendStage_grown : s.journal.Grown 1 (sendStage s).journal :=
  handOver_grown (s := { s with cresc := s.cresc.pairSent }) _

/-- The greetings write at most three records, for frames without a place (R171, R192). -/
theorem greet_grown (isNew : Bool) : s.journal.Grown 3 (greet isNew s).journal := by
  unfold greet newStationActions
  split
  · have announced : s.journal.Grown 1 (handOver .announce s).journal := handOver_grown _
    have staged : s.journal.Grown 2
        (if s.params.shoeRole then sendStage (handOver .announce s) else handOver .announce s).journal := by
      split
      · exact announced.trans sendStage_grown
      · exact announced.mono (by decide)
    dsimp only
    split
    · exact staged.trans (handOver_grown _)
    · exact staged.mono (by decide)
  · exact (Journal.Grown.refl _).mono (by decide)

theorem checkDuplicate_grown (mark : Mark) (header : Byte) : s.journal.Grown 1 (checkDuplicate mark header s).journal := by
  have same : s.journal.Grown 1 s.journal := (Journal.Grown.refl _).mono (by decide)
  unfold checkDuplicate detectDuplicate
  split
  · dsimp only
    split
    · exact .push _ _
    · exact .push _ _
    · exact same
  · exact same

theorem delivery_grown (s : State) (mark : Mark) (f : WireFrame) (m : Msg) :
    (effect mark f.header m (heard s mark f m)).journal.Grown 4 (delivery s mark f m).journal :=
  (greet_grown _).trans (checkDuplicate_grown _ _)

/-! ### Pruning looks at no reference -/

/-- The older entries that an operation leaves, and those it prunes (R28). -/
def coveredBy (body : OpBody) (aff : ChanSet) (l : List OpEntry) : List OpEntry × List OpEntry :=
  if body.isCapture || body.isFlip then (l, []) else pruneList aff l

theorem pruneList_map {g : OpEntry → OpEntry}
    (h : ∀ e, (g e).body = e.body ∧ (g e).state = e.state ∧ (g e).affected = e.affected) (n : ChanSet) (l : List OpEntry) :
    pruneList n (l.map g) = ((pruneList n l).1.map g, (pruneList n l).2.map g) := by
  have same (e : OpEntry) (older : List OpEntry) : prunable n (older.map g) (g e) = prunable n older e := by
    obtain ⟨body, state, affected⟩ := h e
    have captures : (older.map g).any (fun x => x.body.isCapture) = older.any (fun x => x.body.isCapture) := by
      rw [List.any_map]
      exact congrArg older.any (funext fun x => congrArg OpBody.isCapture (h x).1)
    unfold prunable
    rw [captures, body, state, affected]
  induction l with
  | nil => rfl
  | cons e older ih =>
    rw [List.map_cons, pruneList, pruneList, same, ih]
    split <;> rfl

theorem coveredBy_map {g : OpEntry → OpEntry}
    (h : ∀ e, (g e).body = e.body ∧ (g e).state = e.state ∧ (g e).affected = e.affected) (body : OpBody) (n : ChanSet)
    (l : List OpEntry) : coveredBy body n (l.map g) = ((coveredBy body n l).1.map g, (coveredBy body n l).2.map g) := by
  unfold coveredBy
  split
  · rfl
  · exact pruneList_map h n l

theorem coveredBy_sublist (body : OpBody) (n : ChanSet) (l : List OpEntry) : (coveredBy body n l).2.Sublist l := by
  unfold coveredBy
  split
  · exact List.nil_sublist l
  · exact (pruneList_sublist n l).2

/-- The older operations as the new one finds them: its record may take the position of one of theirs (R205, R208). -/
def olderOps (body : OpBody) (s : State) : Sequencer := if filtered body s then s.ops else s.ops.dropRef s.journal.next

theorem unreferenced_coveredBy (body : OpBody) (n : ChanSet) (s : State) :
    unreferenced (coveredBy body n (olderOps body s).list).1 = unreferenced (coveredBy body n s.ops.list).1 := by
  unfold olderOps
  split
  · rfl
  · unfold Sequencer.dropRef unreferenced
    dsimp only
    rw [coveredBy_map (g := fun e => { e with record := Machine.dropRef s.journal.next e.record })
      (fun _ => ⟨rfl, rfl, rfl⟩), List.map_map]
    rfl

/-! ### The appended operation -/

/-- The entry of a new operation (R26). -/
def newEntry (body : OpBody) (origin : Station) (aff : ChanSet) (ref : Option (Fin 32)) : OpEntry :=
  { body := body, origin := origin, affected := aff, state := .waiting, asked := false, record := ref }

theorem appendOperation_eq (body : OpBody) (origin : Station) (aff : ChanSet) (s : State) :
    appendOperation body origin aff s = { s with
      ops := {
        list := (coveredBy body aff (olderOps body s).list).1
          ++ [newEntry body origin aff (if filtered body s then none else some s.journal.next)]
        driving := (olderOps body s).driving }
      store := if filtered body s then s.store else s.store.dropRef s.journal.next
      journal := (appendOperation body origin aff s).journal } := by
  unfold appendOperation openRecord olderOps
  dsimp only
  rw [closeAll_frame]
  split <;> rfl

theorem appendOperation_journal (body : OpBody) (origin : Station) (aff : ChanSet) (s : State) :
    (appendOperation body origin aff s).journal =
      (if filtered body s then s.journal else s.journal.push (operationRecord body origin s)).closeEach .superseded
        ((coveredBy body aff (olderOps body s).list).2.map fun e => e.record) := by
  unfold appendOperation openRecord olderOps
  dsimp only
  rw [closeAll_journal]
  split <;> rfl

theorem appendOperation_list (body : OpBody) (origin : Station) (aff : ChanSet) (s : State) :
    unreferenced (appendOperation body origin aff s).ops.list
      = unreferenced (coveredBy body aff s.ops.list).1 ++ [newEntry body origin aff none] := by
  rw [appendOperation_eq, ← unreferenced_coveredBy body aff s]
  unfold unreferenced
  rw [List.map_append]
  rfl

/-- Where its record is written no pruned entry refers to the position of the new one (R208). -/
theorem coveredBy_ref_ne {body : OpBody} (kept : filtered body s = false) (aff : ChanSet) :
    ∀ e ∈ (coveredBy body aff (olderOps body s).list).2, e.record ≠ some s.journal.next := by
  intro e he
  have older : e ∈ (s.ops.dropRef s.journal.next).list := by
    have listed := (coveredBy_sublist body aff _).subset he
    unfold olderOps at listed
    rwa [kept] at listed
  obtain ⟨x, -, rfl⟩ := List.mem_map.1 older
  exact dropRef_ne _ _

/-- The OPEN record of an operation whose kind is not filtered (R26, R205). -/
theorem appendOperation_record {body : OpBody} (kept : filtered body s = false) (origin : Station) (aff : ChanSet) :
    (appendOperation body origin aff s).journal.records[s.journal.next] = some (operationRecord body origin s)
      ∧ (appendOperation body origin aff s).journal.next = s.journal.next + 1
      ∧ (appendOperation body origin aff s).journal.number = s.journal.number + 1 := by
  have unnamed : some s.journal.next ∉ (coveredBy body aff (olderOps body s).list).2.map fun e => e.record := by
    rintro named
    obtain ⟨e, he, same⟩ := List.mem_map.1 named
    exact coveredBy_ref_ne kept aff e he same
  rw [appendOperation_journal, kept]
  refine ⟨(Journal.closeEach_other _ _ unnamed).trans (Journal.push_at _ _), ?_, ?_⟩ <;> rw [Journal.closeEach_frame] <;> rfl

theorem appendOperation_number {body : OpBody} (kept : filtered body s = true) (origin : Station) (aff : ChanSet) :
    (appendOperation body origin aff s).journal.number = s.journal.number := by
  rw [appendOperation_journal, kept, Journal.closeEach_frame]
  rfl

/-- The OPEN records of the pruned operations close SUPERSEDED (R29). -/
theorem appendOperation_pruned (body : OpBody) (origin : Station) (aff : ChanSet) {e : OpEntry}
    (he : e ∈ (coveredBy body aff (olderOps body s).list).2) {p : Fin 32} {r : Record} (hr : openRecordAt s e.record p r) :
    (appendOperation body origin aff s).journal.records[p]
      = some (r.closedAs .superseded none s.journal.timeTag) := by
  obtain ⟨ref, rec, opened⟩ := hr
  have named : some p ∈ (coveredBy body aff (olderOps body s).list).2.map fun e => e.record :=
    List.mem_map.2 ⟨e, he, ref⟩
  rw [appendOperation_journal]
  cases kept : filtered body s
  · have other : p ≠ s.journal.next := fun same => coveredBy_ref_ne kept aff e he (same ▸ ref)
    exact Journal.closeEach_at (by decide) named ((Journal.push_other _ _ _ other).trans rec) opened
  · exact Journal.closeEach_at (by decide) named rec opened

end Sys2Proof.Machine
end

section
/-! PROOF. The STOP of a frame that asks for an operation, of any station (R26–R29, R177, R179–R183, R195, R198). -/

namespace Sys2Proof.Machine

variable {s : State}

/-! ### What the Sequencer makes of a frame -/

/-- The frame makes no operation here: outside RUN and LISTEN, or ignored, or with an empty affected set (R24, R27). -/
def MakesNothing (mark : Mark) (m : Msg) (s : State) : Prop :=
  working s = false ∨ operationOf mark m = none ∨ ∃ body, operationOf mark m = some body ∧ affectedSet s body = 0

theorem toSequencer_nothing {mark : Mark} {m : Msg} (h : MakesNothing mark m s) (header : Byte) :
    toSequencer mark header m s = s := by
  unfold toSequencer considerFrame
  rcases h with rest | ignored | ⟨body, asked, empty⟩
  · rw [rest]; rfl
  · rw [ignored, ite_self]
  · rw [asked]
    dsimp only
    rw [if_pos empty, ite_self]

section
variable {mark : Mark} {m : Msg} {body : OpBody} (works : working s = true) (asked : operationOf mark m = some body)
  (affects : affectedSet s body ≠ 0)
include works asked affects

/-- A frame for a full list is dropped (R26). -/
theorem toSequencer_dropped (full : 8 ≤ s.ops.list.length) (header : Byte) :
    toSequencer mark header m s = reportFault .opDropped header 0 0 0 s := by
  unfold toSequencer considerFrame
  rw [if_pos works, asked]
  dsimp only
  rw [if_neg affects]
  exact if_neg (Nat.not_lt.2 full)

theorem toSequencer_appended (room : s.ops.list.length < 8) (header : Byte) :
    toSequencer mark header m s = appendOperation body (headerOrigin header) (affectedSet s body) s := by
  unfold toSequencer considerFrame
  rw [if_pos works, asked]
  dsimp only
  rw [if_neg affects]
  exact if_pos room

end

/-! ### The view -/

/-- A RECALL or CAPTURE of a slot sets the view's level and last recall (R180, R181). -/
def operationView (m : Msg) (v : View) : View :=
  match m with
  | .recall l k | .capture l k =>
    if k.toNat < 128 then { v with level := l.toFin, lastRecall := some (l.toFin, Fin.ofNat 128 k.toNat) } else v
  | _ => v

theorem operationView_frame (m : Msg) (v : View) : operationView m v = { v with
    level := (operationView m v).level, lastRecall := (operationView m v).lastRecall } := by
  unfold operationView
  split
  · split <;> rfl
  · split <;> rfl
  · rfl

theorem operationView_slot {m : Msg} {l k : Byte} (h : m = .recall l k ∨ m = .capture l k) (slot : k.toNat < 128) (v : View) :
    operationView m v = { v with level := l.toFin, lastRecall := some (l.toFin, Fin.ofNat 128 k.toNat) } := by
  rcases h with rfl | rfl <;> exact if_pos slot

theorem operationView_other {m : Msg} (h : ∀ l k, m = .recall l k ∨ m = .capture l k → 128 ≤ k.toNat) (v : View) :
    operationView m v = v := by
  unfold operationView
  split
  · exact if_neg (Nat.not_lt.2 (h _ _ (.inl rfl)))
  · exact if_neg (Nat.not_lt.2 (h _ _ (.inr rfl)))
  · rfl

/-- The kinds that ask for an operation go to the Sequencer, after the view (R177, R179–R183). -/
theorem effect_operation {m : Msg} (kind : m.kind < 5) (mark : Mark) (header : Byte) (s : State) :
    effect mark header m s = toSequencer mark header m (setView (operationView m s.view) s) := by
  have slot (l k : Byte) (n : Msg) (none : ¬ k.toNat < 128 → operationOf mark n = none) :
      (if k.toNat < 128 then toSequencer mark header n (setView { s.view with
        level := l.toFin, lastRecall := some (l.toFin, Fin.ofNat 128 k.toNat) } s) else s)
      = toSequencer mark header n (setView (if k.toNat < 128 then { s.view with
        level := l.toFin, lastRecall := some (l.toFin, Fin.ofNat 128 k.toNat) } else s.view) s) := by
    split
    · rfl
    · rename_i large; exact (toSequencer_nothing (.inr (.inl (none large))) header).symm
  match m with
  | .cancel _ => rfl
  | .recall l k => exact slot l k _ fun large => if_neg large
  | .capture l k => exact slot l k _ fun large => if_neg large
  | .handset _ _ => rfl
  | .toggle _ _ => rfl
  | .tutti _ => exact absurd kind (Nat.lt_irrefl 5)
  | .stage _ _ => exact absurd kind (by show ¬ 6 < 5; decide)
  | .setter _ => exact absurd kind (by show ¬ 7 < 5; decide)
  | .level _ => exact absurd kind (by show ¬ 8 < 5; decide)
  | .announce _ _ _ _ => exact absurd kind (by show ¬ 9 < 5; decide)

/-! ### The delivery -/

/-- The station that hands the frame to its Sequencer: the frame heard, and the view with its slot (R177). -/
def operationHeard (s : State) (mark : Mark) (f : WireFrame) (m : Msg) : State :=
  setView (operationView m (heard s mark f m).view) (heard s mark f m)

theorem operationHeard_working (s : State) (mark : Mark) (f : WireFrame) (m : Msg) :
    working (operationHeard s mark f m) = working s := by
  unfold working operationHeard
  rw [operationView_frame]
  rfl

theorem operationHeard_affectedSet (s : State) (mark : Mark) (f : WireFrame) (m : Msg) (body : OpBody) :
    affectedSet (operationHeard s mark f m) body = affectedSet s body := rfl

theorem operationHeard_makesNothing {mark : Mark} {m : Msg} (h : MakesNothing mark m s) (f : WireFrame) :
    MakesNothing mark m (operationHeard s mark f m) := by
  unfold MakesNothing
  rw [operationHeard_working]
  exact h

theorem operationHeard_olderOps (s : State) (mark : Mark) (f : WireFrame) (m : Msg) (body : OpBody) :
    olderOps body (operationHeard s mark f m) = olderOps body s := rfl

/-- The station after an operation has been appended, by the station before its frame. -/
theorem appendOperation_heard (s : State) (mark : Mark) (f : WireFrame) (m : Msg) (body : OpBody) (origin : Station)
    (aff : ChanSet) :
    appendOperation body origin aff (operationHeard s mark f m) = { heard s mark f m with
      view := (appendOperation body origin aff (operationHeard s mark f m)).view
      ops := {
        list := (coveredBy body aff (olderOps body s).list).1
          ++ [newEntry body origin aff (if filtered body s then none else some s.journal.next)]
        driving := (olderOps body s).driving }
      store := if filtered body s then s.store else s.store.dropRef s.journal.next
      journal := (appendOperation body origin aff (operationHeard s mark f m)).journal } := by
  have frame := appendOperation_eq body origin aff (operationHeard s mark f m)
  rw [operationHeard_olderOps] at frame
  rw [appendOperation_view]
  exact frame

theorem appendOperation_heard_pruned (mark : Mark) (f : WireFrame) (m : Msg) (body : OpBody) (origin : Station)
    (aff : ChanSet) {e : OpEntry} (he : e ∈ (coveredBy body aff (olderOps body s).list).2) {p : Fin 32} {r : Record}
    (hr : openRecordAt s e.record p r) :
    (appendOperation body origin aff (operationHeard s mark f m)).journal.records[p]
      = some (r.closedAs .superseded none s.journal.timeTag) := by
  rw [← operationHeard_olderOps s mark f m] at he
  exact appendOperation_pruned body origin aff he hr

/-- A delivery of these kinds: what the Sequencer makes of the frame, and then at most what a new station and a duplicate
bring (R177). -/
theorem delivery_operation {m : Msg} (kind : m.kind < 5) (s : State) (mark : Mark) (f : WireFrame) :
    let x := toSequencer mark f.header m (operationHeard s mark f m)
    let t := delivery s mark f m
    unreferenced t.ops.list = unreferenced x.ops.list ∧ x.journal.Grown 4 t.journal
      ∧ t.view = { operationView m (heard s mark f m).view with
          duplicateSeen := t.view.duplicateSeen, mode := t.view.mode }
      ∧ (FromListedStation s mark f m → t = x) := by
  have same : effect mark f.header m (heard s mark f m) = toSequencer mark f.header m (operationHeard s mark f m) :=
    effect_operation kind _ _ _
  have view := delivery_view s mark f m
  have list := (delivery_afterEffect s mark f m).list
  have grown := delivery_grown s mark f m
  rw [same] at list grown view
  rw [toSequencer_view] at view
  exact ⟨list, grown, view, fun listed => (delivery_listed listed).trans same⟩

/-- Settles O52: nothing is made of the frame, the list is full, or the operation is appended. -/
theorem operationFramesAppendOrDrop : Obligations.OperationFramesAppendOrDrop := by
  unfold Obligations.OperationFramesAppendOrDrop
  intro s cmd mark f m accepted asks u next
  obtain ⟨kind, command⟩ : m.kind < 5 ∧ cmd = frameCommand m.kind := by
    rcases asks with ⟨_, rfl, rfl⟩ | ⟨_, _, rfl, rfl⟩ | ⟨_, _, rfl, rfl⟩ | ⟨_, _, rfl, rfl⟩ | ⟨_, _, rfl, rfl⟩ <;>
      exact ⟨by simp [Msg.kind], rfl⟩
  obtain ⟨list, grown, view, listed⟩ := delivery_operation kind s mark f
  have level : (delivery s mark f m).view.level = (operationView m u.view).level := (congrArg View.level view :)
  have lastRecall : (delivery s mark f m).view.lastRecall = (operationView m u.view).lastRecall :=
    (congrArg View.lastRecall view :)
  refine ⟨delivery s mark f m, command ▸ exec_accepted accepted, ?_, fun l k slot small => ?_, fun other => ?_,
    fun nothing => ?_, fun body works asked affects => ?_⟩
  · rw [level, lastRecall]
    exact view.trans (congrArg (fun v : View => { v with
      duplicateSeen := (delivery s mark f m).view.duplicateSeen, mode := (delivery s mark f m).view.mode })
      (operationView_frame m u.view))
  · rw [operationView_slot slot small] at level lastRecall
    exact ⟨level, lastRecall⟩
  · rw [operationView_other other] at level lastRecall
    exact ⟨level, lastRecall⟩
  · rw [toSequencer_nothing (operationHeard_makesNothing nothing f)] at list listed
    refine ⟨list, fun fromListed => ?_⟩
    rw [listed fromListed]
    have frame := operationView_frame m u.view
    exact ⟨rfl, (congrArg View.mode frame :), (congrArg View.duplicateSeen frame :)⟩
  · have hears : working (operationHeard s mark f m) = true := (operationHeard_working s mark f m).trans works
    refine ⟨fun full => ?_, fun room => ?_⟩
    · rw [toSequencer_dropped hears asked affects full] at list grown listed
      refine ⟨list.trans (unreferenced_dropRef s.ops next), ?_, fun fromListed => ?_⟩
      · rw [grown.last (p := next) rfl (by decide)]
        exact reportFault_record _ _ _ _ _ _ rfl
      · rw [listed fromListed]
        exact ⟨rfl, rfl⟩
    · rw [toSequencer_appended hears asked affects room, operationHeard_affectedSet] at list grown listed
      refine ⟨list.trans (appendOperation_list _ _ _ _), fun kept => ?_, fun fromListed => ?_⟩
      · obtain ⟨record, behind, -⟩ := appendOperation_record (s := operationHeard s mark f m) kept (headerOrigin f.header)
          (affectedSet s body)
        rw [grown.last (p := next) behind (by decide)]
        exact congrArg (Option.map fun r => (r.subject, r.origin, r.state)) record
      · rw [listed fromListed]
        refine ⟨?_, fun kept => ?_, fun kept => ?_, fun e he p r hr => ?_⟩
        · exact appendOperation_heard s mark f m body _ _
        · obtain ⟨record, -, number⟩ := appendOperation_record (s := operationHeard s mark f m) kept
            (headerOrigin f.header) (affectedSet s body)
          exact ⟨record, number⟩
        · exact appendOperation_number (s := operationHeard s mark f m) kept _ _
        · exact appendOperation_heard_pruned mark f m body _ _ he hr

end Sys2Proof.Machine
end
